-- ==== Sys2Proof/Word.lean ====
section
/-! DEFINITION. The byte and the 16-byte buffer (00_scope.md R8, R9; 10_state.md R20). -/

namespace Sys2Proof

/-- A byte: an 8-bit unsigned value (00_scope.md R9). -/
abbrev Byte := BitVec 8

/-- A 16-byte buffer: a block, the data operand of a command, WDATA or RDATA (10_state.md R20, R29, R32). -/
abbrev Bytes16 := Vector Byte 16

/-- `[0x00 × 16]` (42_session_commands.md R163). -/
abbrev zero16 : Bytes16 := Vector.replicate 16 0#8

end Sys2Proof
end

