-- ==== Sys2Proof/Syntax.lean ====
section
/-! DEFINITION. The host commands: the command as the port carries it, and the instruction it stands for
(30_encoding.md R80 to R84, R92). -/

namespace Sys2Proof

/-- A command on the command port: an 11-bit command word and a 16-byte data operand, sampled together
(30_encoding.md R80, R81). -/
structure Command where
  cw : BitVec 11
  data : Bytes16
  deriving DecidableEq, Repr, Inhabited

/-- The instructions of the engine, one constructor per row of spec/opcode_table.json. Every constructor carries the
block and the data operand, because a command latches the operands it does not read too (30_encoding.md R83,
10_state.md R29). -/
inductive Instr where
  /-- Reserved code 0 (42_session_commands.md R185). -/
  | reserved0 (block : Byte) (data : Bytes16)
  /-- AUTH, code 1: the password handshake (R180). -/
  | auth (block : Byte) (data : Bytes16)
  /-- CONFIRM, code 2: submit the password `data[0..3]` (R181). -/
  | confirm (block : Byte) (data : Bytes16)
  /-- READ, code 3: read block `block` (R182). -/
  | read (block : Byte) (data : Bytes16)
  /-- WRITE, code 4: write the 16 bytes `data` (R183). -/
  | write (block : Byte) (data : Bytes16)
  /-- FLUSH, code 5: the stream discards its buffers (R184). -/
  | flush (block : Byte) (data : Bytes16)
  /-- Reserved code 6 (R185). -/
  | reserved6 (block : Byte) (data : Bytes16)
  /-- Reserved code 7 (R185). -/
  | reserved7 (block : Byte) (data : Bytes16)
  /-- The pseudo-command WRITE_ID: a WRITE whose data is `encode_u32(value)` (30_encoding.md R92). -/
  | writeId (block : Byte) (value : BitVec 32)
  deriving DecidableEq, Repr

end Sys2Proof
end

