-- ==== Sys2Proof/WellFormed.lean ====
section
/-! DEFINITION. Which instructions are commands in their own right. -/

namespace Sys2Proof

/-- An instruction is well formed when it is a command of the operation map (30_encoding.md R82), that is, one the
decoder can produce. No operand value is illegal (R83), so the one check is that the instruction is not the
pseudo-command WRITE_ID, which expands to a WRITE before it is a command word (R92). -/
def Instr.wellFormed : Instr → Bool
  | .reserved0 _ _ => true
  | .auth _ _ => true
  | .confirm _ _ => true
  | .read _ _ => true
  | .write _ _ => true
  | .flush _ _ => true
  | .reserved6 _ _ => true
  | .reserved7 _ _ => true
  | .writeId _ _ => false

end Sys2Proof
end

