-- ==== Sys2Proof/Decode.lean ====
section
/-! DEFINITION. The command word: decoder, encoder, the flat numbering of a command's bits, and the block value of the
pseudo-command WRITE_ID (30_encoding.md R80 to R84, R92; 92_eei_decisions.md D5). -/

namespace Sys2Proof

/-- `encode_u32(v)`: "writes `value` big-endian into bytes 12–15 of an all-zero 16-byte buffer; bytes 0–11 are
zero-filled" (30_encoding.md R92). -/
def encodeU32 (v : BitVec 32) : Bytes16 :=
  #v[0, 0, 0, 0, 0, 0, 0, 0, 0, 0, 0, 0,
    v.extractLsb' 24 8, v.extractLsb' 16 8, v.extractLsb' 8 8, v.extractLsb' 0 8]

/-- `decode_u32(b, 12)`: the host's reading of bytes 12 to 15 of a block, byte 12 the most significant
(20_memory.md R63, 30_encoding.md R92). -/
def decodeU32 (b : Bytes16) : BitVec 32 := b[12] ++ b[13] ++ b[14] ++ b[15]

/-- `cw[2:0]`, the port `cmd_op` (30_encoding.md R81). -/
def Command.op (c : Command) : BitVec 3 := c.cw.extractLsb' 0 3

/-- `cw[10:3]`, the port `cmd_block` (30_encoding.md R81). -/
def Command.block (c : Command) : Byte := c.cw.extractLsb' 3 8

/-- The operation map (30_encoding.md R82): the instruction of an operation code and its operands. Every code has a
row, so the map is total and no code falls through to a neighbour. -/
def decodeOp (op : BitVec 3) (block : Byte) (data : Bytes16) : Instr :=
  match op.toFin with
  | 0 => .reserved0 block data
  | 1 => .auth block data
  | 2 => .confirm block data
  | 3 => .read block data
  | 4 => .write block data
  | 5 => .flush block data
  | 6 => .reserved6 block data
  | 7 => .reserved7 block data

/-- The decoder: the instruction of a command on the port. -/
def decode (c : Command) : Instr := decodeOp c.op c.block c.data

/-- The operation code of an instruction (30_encoding.md R82; WRITE_ID is a WRITE, R92). -/
def Instr.opcode : Instr → BitVec 3
  | .reserved0 _ _ => 0
  | .auth _ _ => 1
  | .confirm _ _ => 2
  | .read _ _ => 3
  | .write _ _ => 4
  | .flush _ _ => 5
  | .reserved6 _ _ => 6
  | .reserved7 _ _ => 7
  | .writeId _ _ => 4

/-- The block operand of an instruction. -/
def Instr.block : Instr → Byte
  | .reserved0 b _ => b
  | .auth b _ => b
  | .confirm b _ => b
  | .read b _ => b
  | .write b _ => b
  | .flush b _ => b
  | .reserved6 b _ => b
  | .reserved7 b _ => b
  | .writeId b _ => b

/-- The data operand of an instruction (for WRITE_ID the 16 bytes it expands to, 30_encoding.md R92). -/
def Instr.data : Instr → Bytes16
  | .reserved0 _ d => d
  | .auth _ d => d
  | .confirm _ d => d
  | .read _ d => d
  | .write _ d => d
  | .flush _ d => d
  | .reserved6 _ d => d
  | .reserved7 _ d => d
  | .writeId _ v => encodeU32 v

/-- The encoder: `cw = {block[7:0], op[2:0]}` and the data operand (30_encoding.md R81; 95_test_vectors.md section 3). -/
def encode (i : Instr) : Command := { cw := i.block ++ i.opcode, data := i.data }

/-- The expansion of the pseudo-command (30_encoding.md R92); every other instruction stands for itself. -/
def Instr.expand : Instr → Instr
  | .writeId b v => .write b (encodeU32 v)
  | i => i

/-- Why a row of bits is no command. -/
inductive DecodeError where
  /-- A bit above the 11 + 128 bits of a command is set (30_encoding.md R80: one length, one format). -/
  | tooWide
  deriving DecidableEq, Repr

/-- A command read from its bits numbered flat: bits 10..0 are the command word, and `data[k]` follows at bits
`11+8k+7 .. 11+8k` (30_encoding.md R81 numbers the data operand's bits `[8k+7:8k]`; that it follows the command word is
a DESIGN CHOICE, log 14). A row with a bit above these is refused by name. -/
def Command.ofFlat (w : Nat) : Except DecodeError Command :=
  if w < 2 ^ 139 then
    .ok { cw := BitVec.ofNat 11 w, data := Vector.ofFn fun k => BitVec.ofNat 8 (w >>> (11 + 8 * k.val)) }
  else .error .tooWide

/-- The number whose byte k, bits `[8k+7:8k]`, is byte k of the list: the data operand as a flat vector
(30_encoding.md R81). -/
def bytesToNat : List Byte → Nat
  | [] => 0
  | b :: rest => b.toNat + 2 ^ 8 * bytesToNat rest

/-- The bits of a command numbered flat: the inverse of `Command.ofFlat`. -/
def Command.toFlat (c : Command) : Nat := c.cw.toNat + 2 ^ 11 * bytesToNat c.data.toList

/-- The instruction of a row of bits numbered flat, or the name of why there is none. -/
def decodeFlat (w : Nat) : Except DecodeError Instr :=
  match Command.ofFlat w with
  | .ok c => .ok (decode c)
  | .error e => .error e

/-- The command whose bits are `w`, numbered as spec/opcode_table.json numbers them; every bit from `nbits` on is 0. -/
def Command.ofTableWord (nbits w : Nat) : Except DecodeError Command := Command.ofFlat (w % 2 ^ nbits)

/-- The instruction the decoder reads from the bits `w` of a row of spec/opcode_table.json. -/
def decodeTableWord (nbits w : Nat) : Option Instr :=
  match decodeFlat (w % 2 ^ nbits) with
  | .ok i => some i
  | .error _ => none

end Sys2Proof
end

