-- ==== Sys2Proof/Config.lean ====
section
/-! DEFINITION. What an implementation fixes, the configuration of 00_scope.md R6 and R7, and the free values: what comes
in from outside in a cycle no plan covers, and the one byte the spec leaves undefined. The source's values of the
constants of R6 are in Machine/Params.lean. -/

namespace Sys2Proof

/-- The step ids, in the spec's order 0 to 7 (00_scope.md R13). -/
inductive StepId where
  | auth1 | auth2 | auth3 | confirm | read1 | read2 | write1 | write2
  deriving DecidableEq, Repr, Inhabited

/-- The source-valued configuration fields (00_scope.md R6, 92_eei_decisions.md D10); the values the source gives them
are `Constants.source`. -/
structure Constants where
  /-- `SYNC0`, `SYNC1`. -/
  sync0 : Byte
  sync1 : Byte
  /-- Header bytes 3, 4, 5. -/
  hdr3 : Byte
  hdr4 : Byte
  hdr5 : Byte
  /-- `SEED_CONFIRM`, `SEED_READ1`, `SEED_READ2`, `SEED_WRITE2`. -/
  seedConfirm : Byte
  seedRead1 : Byte
  seedRead2 : Byte
  seedWrite2 : Byte
  /-- `FILL`, sent six times in read-1 and write-1. -/
  fill : Byte
  /-- `W1_BLOCK`. -/
  w1Block : Byte
  /-- `E[0..7]`, the expected response bytes of each step id. -/
  expected : Vector Nat 8
  /-- `MK0`, `MK1`, the marker bytes. -/
  mk0 : Byte
  mk1 : Byte
  /-- `CAPMAX_AUTH`, `CAPMAX_READ`. -/
  capMaxAuth : Nat
  capMaxRead : Nat
  /-- `DEADLINE_S`, in seconds. -/
  deadlineS : Nat
  deriving DecidableEq, Repr, Inhabited

/-- The configuration: the source-valued fields, and the open parameters, which have no default (00_scope.md R7): the
header bytes LEN, GROUP and CODE of each step id, the fixed check byte of write-1, and the clock frequency. CLK_HZ is a
positive integer, so it is held as its predecessor (log 3). -/
structure Config where
  const : Constants
  len : Vector Byte 8
  group : Vector Byte 8
  code : Vector Byte 8
  w1Check : Byte
  clkHzPred : Nat
  deriving DecidableEq, Repr, Inhabited

/-- What the outside does in one clock cycle (10_state.md R20, 60_exceptions.md R214): the host's `rst` and command
port (`cmd = none` is `cmd_valid = 0`), the bytes the reader delivers into the stream's input buffer, in order, and how
many bytes of its output buffer the stream passes on to the reader. -/
structure CycleInput where
  rst : Bool
  cmd : Option Command
  arrive : List Byte
  drain : Nat
  deriving DecidableEq, Repr, Inhabited

/-- A cycle in which nothing comes in. -/
def CycleInput.quiet : CycleInput := { rst := false, cmd := none, arrive := [], drain := 0 }

/-- A cycle in which the host offers a command and nothing else comes in. -/
def CycleInput.offer (c : Command) : CycleInput := { rst := false, cmd := some c, arrive := [], drain := 0 }

/-- The configuration of the machine. After reset its source-valued fields are replaced by the source's values, and of
its open parameters no value is known (00_scope.md R7, log 2). -/
opaque Config.machine : Config

/-- FREE VALUE: what the outside does in cycle `n` when the plan in State does not say (93_implementation_defined.md
I2, I12; log 6). -/
opaque Config.freeInput : Nat → CycleInput

/-- FREE VALUE: the byte offered at an index past the end of the frame, which 40_frame_codec.md R112 does not define and
no run reaches (log 12). -/
opaque Config.byteBeyondFrame : StepId → BitVec 5 → Byte

end Sys2Proof
end

