-- ==== Sys2Proof/Machine/Params.lean ====
section
/-! DEFINITION. The values the source gives the configuration fields (00_scope.md R6; log 4), and the tables by step id
and by command (40_frame_codec.md R111, 41_receiver_parser.md R142, 42_session_commands.md R161). -/

namespace Sys2Proof

/-- The defaults of the source-valued configuration fields (00_scope.md R6). -/
def Constants.source : Constants where
  sync0 := 0xAA
  sync1 := 0xBB
  hdr3 := 0x00
  hdr4 := 0x00
  hdr5 := 0x00
  seedConfirm := 1
  seedRead1 := 101
  seedRead2 := 10
  seedWrite2 := 15
  fill := 0xFF
  w1Block := 4
  expected := #v[10, 12, 14, 11, 10, 25, 11, 10]
  mk0 := 2
  mk1 := 0
  capMaxAuth := 4
  capMaxRead := 16
  deadlineS := 1

/-- The number of a step id (00_scope.md R13). -/
def StepId.num : StepId → Fin 8
  | .auth1 => 0 | .auth2 => 1 | .auth3 => 2 | .confirm => 3
  | .read1 => 4 | .read2 => 5 | .write1 => 6 | .write2 => 7

/-- A step id as the 3-bit field FAIL_STEP holds it (10_state.md R33). -/
def StepId.bits (s : StepId) : BitVec 3 := BitVec.ofFin s.num

/-- `step + 1` in the 3-bit element `step` (42_session_commands.md R163). -/
def StepId.succ : StepId → StepId
  | .auth1 => .auth2 | .auth2 => .auth3 | .auth3 => .confirm | .confirm => .read1
  | .read1 => .read2 | .read2 => .write1 | .write1 => .write2 | .write2 => .auth1

/-- `E(s)`, the expected response bytes (00_scope.md R6, 40_frame_codec.md R111). -/
def Config.expected (c : Config) (s : StepId) : Nat := c.const.expected[s.num]

/-- `CLK_HZ`, a positive integer (00_scope.md R7). -/
def Config.clkHz (c : Config) : Nat := c.clkHzPred + 1

/-- `DEADLINE_TICKS = DEADLINE_S × CLK_HZ` (00_scope.md R7, 41_receiver_parser.md R132). -/
def Config.deadlineTicks (c : Config) : Nat := c.const.deadlineS * c.clkHz

/-- `WE = ⌈log2(DEADLINE_TICKS + 2)⌉`, the width of `elapsed` in bits (00_scope.md R8). -/
def Config.elapsedWidth (c : Config) : Nat := Nat.clog 2 (c.deadlineTicks + 2)

/-- What a command captures, which names its CAPMAX (42_session_commands.md R161). -/
inductive Capture where
  /-- CONFIRM, WRITE, FLUSH and the reserved codes: nothing. -/
  | nothing
  /-- AUTH: the password. -/
  | password
  /-- READ: the block. -/
  | block
  deriving DecidableEq, Repr

/-- `CAPMAX(OP)` (41_receiver_parser.md R142, 42_session_commands.md R161). -/
def Config.capMax (c : Config) : Capture → Nat
  | .nothing => 0
  | .password => c.const.capMaxAuth
  | .block => c.const.capMaxRead

/-- The configurations the widths of the state elements are made for (00_scope.md R8; 10_state.md R25): a response has at
least one byte and its length fits `cnt`, and no more bytes are captured than RDATA has. -/
def Constants.legal (k : Constants) : Prop :=
  (∀ s : Fin 8, 1 ≤ k.expected[s] ∧ k.expected[s] < 2 ^ 5) ∧ k.capMaxAuth ≤ 16 ∧ k.capMaxRead ≤ 16

namespace Machine

/-- `N(s)`, the frame length (40_frame_codec.md R111, 30_encoding.md R88). -/
def frameLen : StepId → Nat
  | .auth1 => 8 | .auth2 => 8 | .auth3 => 8 | .confirm => 13
  | .read1 => 16 | .read2 => 10 | .write1 => 16 | .write2 => 25

/-- `ARMED(s)`: the marker scan is active in the responses of auth-3 and read-2 (41_receiver_parser.md R142). -/
def armed : StepId → Bool
  | .auth3 => true
  | .read2 => true
  | .auth1 | .auth2 | .confirm | .read1 | .write1 | .write2 => false

end Machine

end Sys2Proof
end

