-- ==== Sys2Proof/Machine/State.lean ====
section
/-! DEFINITION. The state: the elements of the engine (10_state.md R25), the byte stream and the plan of what comes in from
outside (60_exceptions.md R214), and the open parameters (log 2); the reasons a step can stop; reset. -/

namespace Sys2Proof.Machine

/-- The sequencer state `st` (10_state.md R26). -/
inductive SeqState where
  /-- IDLE (0): no command in progress. -/
  | idle
  /-- TX (1): the frame of step `step` is sent. -/
  | tx
  /-- RX (2): the response of step `step` is received. -/
  | rx
  /-- FL (3): `flush` is pulsed. -/
  | fl
  deriving DecidableEq, Repr

/-- The outcome RESULT (10_state.md R33, 60_exceptions.md R200). -/
inductive Result where
  /-- NONE (0): no command has ended since the last accept or reset. -/
  | none
  /-- OK (1). -/
  | ok
  /-- TIMEOUT (2). -/
  | timeout
  /-- ILLEGAL (3). -/
  | illegal
  deriving DecidableEq, Repr

/-- The two buffers of the Byte Stream, oldest byte first (70_reset_and_hazards.md R238, 92_eei_decisions.md D7). -/
structure Stream where
  /-- Bytes received from the reader that the engine has not taken. -/
  rxHeld : List Byte
  /-- Bytes the engine has sent that the stream has not passed on. -/
  txHeld : List Byte
  deriving DecidableEq, Repr

/-- The state of the machine. The first sixteen fields are the engine's complete state (10_state.md R24, R25). -/
structure State where
  st : SeqState
  op : BitVec 3
  block : Byte
  wdata : Bytes16
  rdata : Bytes16
  step : StepId
  idx : BitVec 5
  cnt : BitVec 5
  /-- `WE` bits wide (00_scope.md R8); held as the number itself (log 5). -/
  elapsed : Nat
  prev2 : Bool
  cap : Bool
  capcnt : BitVec 5
  marker : Bool
  result : Result
  failStep : BitVec 3
  doneR : Bool
  /-- The Byte Stream's buffers. -/
  stream : Stream
  /-- What comes in from outside in the coming cycles, this cycle first; past its end, `Config.freeInput` (log 6). -/
  script : List CycleInput
  /-- The number of the cycle, which indexes the free inputs; the model's own (log 6). -/
  cycle : Nat
  /-- The open parameters, which no step changes (93_implementation_defined.md I13; log 2). -/
  cfg : Config
  deriving DecidableEq, Repr

/-- Why the machine stops. -/
inductive Fault where
  /-- Raised by `stepComplete` when a receive step completes while the command is FLUSH or a reserved code, for which
  42_session_commands.md R161 gives no LAST(OP). Safe: no reachable state is one (log 13). -/
  | noLastStep (op : BitVec 3)
  deriving DecidableEq, Repr

/-- Why an instruction has no meaning. -/
inductive Refusal where
  /-- Raised by an arm of `exec` for an instruction that is not modelled yet; no arm is one now. Safe. -/
  | notModelled (mnemonic : String)
  deriving DecidableEq, Repr

/-- The state after reset: every element of the engine at 0 (70_reset_and_hazards.md R230, 10_state.md R25). The stream,
the plan and the cycle number are the model's choice (log 8). The source-valued fields of the configuration have the
source's values (00_scope.md R6), and nothing is known of the open parameters (log 2). -/
def State.reset : State where
  st := .idle
  op := 0
  block := 0
  wdata := zero16
  rdata := zero16
  step := .auth1
  idx := 0
  cnt := 0
  elapsed := 0
  prev2 := false
  cap := false
  capcnt := 0
  marker := false
  result := .none
  failStep := 0
  doneR := false
  stream := { rxHeld := [], txHeld := [] }
  script := []
  cycle := 0
  cfg := { Config.machine with const := Constants.source }

end Sys2Proof.Machine
end

