-- ==== Sys2Proof/Machine/Operands.lean ====
section
/-! DEFINITION. The Frame Codec: the bytes of a frame from a step id, the latched operands and the configuration
(40_frame_codec.md R100 to R113, 30_encoding.md R85, R89). -/

namespace Sys2Proof.Machine

/-- `checksum(seed, L)`: the XOR-fold of `seed` with every byte of `L` (40_frame_codec.md R100, 00_scope.md R10). -/
def checksum (seed : Byte) (l : List Byte) : Byte := l.foldl (fun a b => a ^^^ b) seed

/-- `header(s)` (40_frame_codec.md R102). -/
def header (c : Config) (s : StepId) : List Byte :=
  [c.const.sync0, c.const.sync1, c.len[s.num], c.const.hdr3, c.const.hdr4, c.const.hdr5, c.group[s.num], c.code[s.num]]

/-- `FILL`, six times (00_scope.md R6). -/
def fill6 (c : Config) : List Byte := List.replicate 6 c.const.fill

/-- `payload(s)` (40_frame_codec.md R103 to R110, 30_encoding.md R89). -/
def payload (c : Config) (block : Byte) (wdata : Bytes16) : StepId → List Byte
  | .auth1 => []
  | .auth2 => []
  | .auth3 => []
  | .confirm => [wdata[0], wdata[1], wdata[2], wdata[3]]
  | .read1 => block :: fill6 c
  | .read2 => [block]
  | .write1 => c.const.w1Block :: fill6 c
  | .write2 => wdata.toList

/-- `check(s)`, empty when the step has no check byte (40_frame_codec.md R103 to R110). -/
def check (c : Config) (block : Byte) (wdata : Bytes16) : StepId → List Byte
  | .auth1 => []
  | .auth2 => []
  | .auth3 => []
  | .confirm => [checksum c.const.seedConfirm (payload c block wdata .confirm)]
  | .read1 => [checksum c.const.seedRead1 (payload c block wdata .read1)]
  | .read2 => [checksum c.const.seedRead2 (payload c block wdata .read2)]
  | .write1 => [c.w1Check]
  | .write2 => [checksum c.const.seedWrite2 (payload c block wdata .write2)]

/-- `frame(s)`: header, payload, check byte (40_frame_codec.md section 3). -/
def frame (c : Config) (block : Byte) (wdata : Bytes16) (s : StepId) : List Byte :=
  header c s ++ payload c block wdata s ++ check c block wdata s

/-- `frame_byte(s, i, BLOCK, WDATA) = frame(s)[i]` for `i < N(s)` (40_frame_codec.md R112); past the frame a free value
(log 12). -/
def frameByte (c : Config) (block : Byte) (wdata : Bytes16) (s : StepId) (i : BitVec 5) : Byte :=
  ((frame c block wdata s)[i.toNat]?).getD (Config.byteBeyondFrame s i)

end Sys2Proof.Machine
end

