-- ==== Sys2Proof/Machine/Flags.lean ====
section
/-! DEFINITION. The STATUS word and the outputs, all functions of the current state (10_state.md R33, R41). -/

namespace Sys2Proof.Machine

/-- The code of an outcome in STATUS.RESULT (10_state.md R33). -/
def Result.bits : Result → BitVec 2
  | .none => 0
  | .ok => 1
  | .timeout => 2
  | .illegal => 3

/-- STATUS.BUSY: `st ≠ IDLE` (10_state.md R33). -/
def State.busy (s : State) : Bool := !decide (s.st = .idle)

/-- The STATUS word `{0, OP, CAPCNT, MARKER, FAIL_STEP, RESULT, BUSY}` (10_state.md R33, R41). -/
def State.status (s : State) : BitVec 16 :=
  0#1 ++ s.op ++ s.capcnt ++ BitVec.ofBool s.marker ++ s.failStep ++ s.result.bits ++ BitVec.ofBool s.busy

/-- The output ports (10_state.md R20). -/
structure Outputs where
  cmdReady : Bool
  txValid : Bool
  txData : Byte
  rxReady : Bool
  flush : Bool
  done : Bool
  rdata : Bytes16
  status : BitVec 16
  deriving DecidableEq, Repr

/-- The outputs as functions of the state (10_state.md R41). -/
def State.outputs (s : State) : Outputs where
  cmdReady := decide (s.st = .idle)
  txValid := decide (s.st = .tx)
  txData := if s.st = .tx then frameByte s.cfg s.block s.wdata s.step s.idx else 0
  rxReady := decide (s.st = .rx) && decide (s.elapsed ≤ s.cfg.deadlineTicks)
  flush := decide (s.st = .fl)
  done := s.doneR
  rdata := s.rdata
  status := s.status

end Sys2Proof.Machine
end

