-- ==== Sys2Proof/Machine/Stream.lean ====
section
/-! DEFINITION. What comes in from outside in a cycle, and what the Byte Stream does in it (10_state.md R20, R21;
20_memory.md R68; 60_exceptions.md R214; 70_reset_and_hazards.md R238). -/

namespace Sys2Proof.Machine

/-- What comes in from outside in this cycle: what the plan says, and past its end a free value (log 6). -/
def State.input (s : State) : CycleInput := s.script.headD (Config.freeInput s.cycle)

/-- The received bytes the stream holds in this cycle, oldest first; bytes that reach the stream in this cycle are
already held (log 7). -/
def State.rxQueue (s : State) : List Byte := s.stream.rxHeld ++ s.input.arrive

/-- The receive port: `some b` is `rx_valid = 1, rx_data = b`. The stream offers its oldest byte (R238). -/
def State.rxOffer (s : State) : Option Byte := s.rxQueue.head?

/-- The engine takes the offered byte in this cycle: `st = RX`, `rx_ready = 1` and `rx_valid = 1`
(41_receiver_parser.md R134), and `rst = 0`, since under reset "an offered command or byte is not taken"
(42_session_commands.md R164; log 9). -/
def State.takesByte (s : State) : Bool := !s.input.rst && s.outputs.rxReady && s.rxOffer.isSome

/-- The bytes the engine sends in this cycle: one when `tx_valid = 1`, else none (R21, R238). -/
def State.sent (s : State) : List Byte := if s.outputs.txValid then [s.outputs.txData] else []

/-- The stream's buffers after this cycle (R238): `flush` discards every byte held in both directions; else the sent byte
is taken, `drain` bytes are passed on to the reader, and the byte the engine takes is removed. -/
def State.nextStream (s : State) : Stream :=
  if s.outputs.flush then { rxHeld := [], txHeld := [] }
  else
    { rxHeld := if s.takesByte then s.rxQueue.tail else s.rxQueue
      txHeld := (s.stream.txHeld ++ s.sent).drop s.input.drain }

/-- The clock edge for the surroundings: from the cycle that began in `s`, the engine's next state `t` gets the stream's
next buffers and the rest of the plan. -/
def tick (s t : State) : State :=
  { t with stream := s.nextStream, script := s.script.tail, cycle := s.cycle + 1 }

end Sys2Proof.Machine
end

