-- ==== Sys2Proof/Machine/Ops.lean ====
section
/-! DEFINITION. The operations all commands share: accept, the end of a command with an outcome, the transmit cycle, the
receive cycle with the payload parser, and one cycle of a command (41_receiver_parser.md R130 to R149;
42_session_commands.md R160 to R178; 60_exceptions.md R200 to R209). In each, every element not assigned keeps its
value, and right-hand sides read the state of the current cycle (00_scope.md R11). -/

namespace Sys2Proof.Machine

/-- How a command goes on in its accept cycle (42_session_commands.md R163, accept). -/
inductive Start where
  /-- AUTH, CONFIRM, READ, WRITE: send the frame of the step FIRST(OP). -/
  | send (first : StepId)
  /-- FLUSH: enter FL. -/
  | flush
  /-- Reserved code: `finish(ILLEGAL)`. -/
  | illegal
  deriving DecidableEq, Repr

/-- The constants of a command (42_session_commands.md R161): code, start, LAST(OP) where it has one, what it captures. -/
structure CommandRow where
  op : BitVec 3
  start : Start
  last : Option StepId
  capture : Capture
  deriving DecidableEq, Repr

/-- `finish(r)`: THE END OF A COMMAND, the one shared operation that takes an outcome (42_session_commands.md R163, R176;
60_exceptions.md R208). It returns to IDLE, records RESULT and pulses `done` in the next cycle; for TIMEOUT it saves the
failing step in FAIL_STEP and clears RDATA, CAPCNT and MARKER. The return from an outcome is the next accept (R209). -/
def finish (r : Result) (s : State) : State :=
  { s with
    st := .idle
    result := r
    doneR := true
    failStep := if r = .timeout then s.step.bits else s.failStep
    rdata := if r = .timeout then zero16 else s.rdata
    capcnt := if r = .timeout then 0 else s.capcnt
    marker := if r = .timeout then false else s.marker }

/-- What every accept does first: latch the operands and clear the result state (42_session_commands.md R163, R168;
10_state.md R29). `done_r` is 0 unless `finish` executes (R165). -/
def latch (op : BitVec 3) (block : Byte) (data : Bytes16) (s : State) : State :=
  { s with
    op := op, block := block, wdata := data
    rdata := zero16, capcnt := 0, marker := false, failStep := 0
    doneR := false }

/-- The accept cycle of a command (42_session_commands.md R163, accept; R168). -/
def accept (k : CommandRow) (block : Byte) (data : Bytes16) (s : State) : State :=
  let t := latch k.op block data s
  match k.start with
  | .send first => { t with result := .none, step := first, idx := 0, st := .tx }
  | .flush => { t with result := .none, st := .fl }
  | .illegal => finish .illegal t

/-- An IDLE cycle in which no command is offered: nothing but `done_r` changes (42_session_commands.md R166). -/
def idleCycle (s : State) : State := { s with doneR := false }

/-- A TX cycle (42_session_commands.md R163, tx_cycle; R169, R170). The byte it offers is `State.outputs`' `txData`. -/
def txCycle (s : State) : State :=
  if s.idx.toNat + 1 = frameLen s.step then
    { s with st := .rx, cnt := 0, elapsed := 0, prev2 := false, cap := false, doneR := false }
  else { s with idx := s.idx + 1, doneR := false }

/-- The Payload Parser on one accepted byte (41_receiver_parser.md R138, parse; R142 to R147), for a command whose
capture capacity is `capMax`. -/
def parse (capMax : Nat) (b : Byte) (s : State) : State :=
  if s.cap then
    if s.capcnt.toNat < capMax then
      { s with rdata := s.rdata.setIfInBounds s.capcnt.toNat b, capcnt := s.capcnt + 1, prev2 := decide (b = s.cfg.const.mk0) }
    else { s with prev2 := decide (b = s.cfg.const.mk0) }
  else if armed s.step && s.prev2 && decide (b = s.cfg.const.mk1) then
    { s with cap := true, marker := true, prev2 := decide (b = s.cfg.const.mk0) }
  else { s with prev2 := decide (b = s.cfg.const.mk0) }

/-- `step_complete` (42_session_commands.md R163; R173, R174): end the command after its last step, else send the next
step's frame. A command without steps has no LAST(OP): the named fault (log 13). -/
def stepComplete (k : CommandRow) (s : State) : Host.Outcome State Fault Refusal :=
  match k.last with
  | none => .fault (.noLastStep k.op)
  | some last =>
    if s.step = last then .next (finish .ok s)
    else .next { s with step := s.step.succ, idx := 0, st := .tx, doneR := false }

/-- The Timed Receiver on one accepted byte inside the window (41_receiver_parser.md R138): parse it, count it, and
complete the step when it is the `E(step)`-th (R137). -/
def takeByte (k : CommandRow) (b : Byte) (s : State) : Host.Outcome State Fault Refusal :=
  let t := { parse (s.cfg.capMax k.capture) b s with elapsed := s.elapsed + 1, cnt := s.cnt + 1, doneR := false }
  if s.cnt.toNat + 1 = s.cfg.expected s.step then stepComplete k t else .next t

/-- An RX cycle (41_receiver_parser.md R138): past the deadline the step times out and no byte is taken (R135); inside
the window `elapsed` counts on (R136) and at most one byte is taken (R134, R139). -/
def rxCycle (k : CommandRow) (s : State) : Host.Outcome State Fault Refusal :=
  if s.cfg.deadlineTicks < s.elapsed then .next (finish .timeout s)
  else
    match s.rxOffer with
    | none => .next { s with elapsed := s.elapsed + 1, doneR := false }
    | some b => takeByte k b s

/-- One cycle of a command (42_session_commands.md R163; log 1): in IDLE it is accepted; afterwards the cycle is the one
of the sequencer's state, and the operands offered with it are not seen (R167, 10_state.md R29). -/
def commandCycle (k : CommandRow) (block : Byte) (data : Bytes16) (s : State) : Host.Outcome State Fault Refusal :=
  match s.st with
  | .idle => .next (accept k block data s)
  | .tx => .next (txCycle s)
  | .rx => rxCycle k s
  | .fl => .next (finish .ok s)

/-- The engine after a cycle with `rst = 1`: every element at its reset value, whatever else happens; the surroundings
and the configuration are not reached (42_session_commands.md R164; 70_reset_and_hazards.md R230, R232). -/
def resetEngine (s : State) : State :=
  { State.reset with stream := s.stream, script := s.script, cycle := s.cycle, cfg := s.cfg }

end Sys2Proof.Machine
end

