-- ==== Sys2Proof/Machine/Block.lean ====
section
/-! DEFINITION. READ, WRITE and the pseudo-command WRITE_ID (42_session_commands.md R161, R182, R183; 30_encoding.md R92).
Each meaning is one cycle of the command (log 1). -/

namespace Sys2Proof.Machine

/-- READ: steps read-1, read-2; the response of read-2 is armed and holds at most 16 captured bytes
(42_session_commands.md R161). -/
def readRow : CommandRow := { op := 3, start := .send .read1, last := some .read2, capture := .block }

/-- WRITE: steps write-1, write-2; nothing is captured (R161). -/
def writeRow : CommandRow := { op := 4, start := .send .write1, last := some .write2, capture := .nothing }

/-- READ (42_session_commands.md R182). -/
def execRead (block : Byte) (data : Bytes16) (s : State) : Host.Outcome State Fault Refusal :=
  commandCycle readRow block data s

/-- WRITE (42_session_commands.md R183). -/
def execWrite (block : Byte) (data : Bytes16) (s : State) : Host.Outcome State Fault Refusal :=
  commandCycle writeRow block data s

/-- WRITE_ID: a WRITE of `encode_u32(value)` (30_encoding.md R92). -/
def execWriteId (block : Byte) (value : BitVec 32) (s : State) : Host.Outcome State Fault Refusal :=
  commandCycle writeRow block (encodeU32 value) s

end Sys2Proof.Machine
end

