-- ==== Sys2Proof/Machine/Service.lean ====
section
/-! DEFINITION. FLUSH and the reserved codes (42_session_commands.md R161, R184, R185). Each meaning is one cycle of the
command (log 1). -/

namespace Sys2Proof.Machine

/-- FLUSH: no step, one FL cycle (42_session_commands.md R161). -/
def flushRow : CommandRow := { op := 5, start := .flush, last := none, capture := .nothing }

/-- A reserved code: no step, `finish(ILLEGAL)` in the accept cycle (R185). -/
def reservedRow (op : BitVec 3) : CommandRow := { op := op, start := .illegal, last := none, capture := .nothing }

/-- FLUSH (42_session_commands.md R184). -/
def execFlush (block : Byte) (data : Bytes16) (s : State) : Host.Outcome State Fault Refusal :=
  commandCycle flushRow block data s

/-- Reserved code 0 (42_session_commands.md R185). -/
def execReserved0 (block : Byte) (data : Bytes16) (s : State) : Host.Outcome State Fault Refusal :=
  commandCycle (reservedRow 0) block data s

/-- Reserved code 6 (42_session_commands.md R185). -/
def execReserved6 (block : Byte) (data : Bytes16) (s : State) : Host.Outcome State Fault Refusal :=
  commandCycle (reservedRow 6) block data s

/-- Reserved code 7 (42_session_commands.md R185). -/
def execReserved7 (block : Byte) (data : Bytes16) (s : State) : Host.Outcome State Fault Refusal :=
  commandCycle (reservedRow 7) block data s

end Sys2Proof.Machine
end

