-- ==== Sys2Proof/Machine/Session.lean ====
section
/-! DEFINITION. AUTH and CONFIRM (42_session_commands.md R161, R180, R181). Each meaning is one cycle of the command
(log 1). -/

namespace Sys2Proof.Machine

/-- AUTH: steps auth-1, auth-2, auth-3; the response of auth-3 is armed and holds at most 4 captured bytes
(42_session_commands.md R161). -/
def authRow : CommandRow := { op := 1, start := .send .auth1, last := some .auth3, capture := .password }

/-- CONFIRM: the one step confirm; nothing is captured (R161). -/
def confirmRow : CommandRow := { op := 2, start := .send .confirm, last := some .confirm, capture := .nothing }

/-- AUTH (42_session_commands.md R180). -/
def execAuth (block : Byte) (data : Bytes16) (s : State) : Host.Outcome State Fault Refusal :=
  commandCycle authRow block data s

/-- CONFIRM (42_session_commands.md R181). -/
def execConfirm (block : Byte) (data : Bytes16) (s : State) : Host.Outcome State Fault Refusal :=
  commandCycle confirmRow block data s

end Sys2Proof.Machine
end

