-- ==== Sys2Proof/Machine/Dispatch.lean ====
section
/-! DEFINITION. One arm per instruction. -/

namespace Sys2Proof.Machine

def exec (i : Instr) (s : State) : Host.Outcome State Fault Refusal :=
  match i with
  | .reserved0 b d => Sys2Proof.Machine.execReserved0 b d s
  | .auth b d => Sys2Proof.Machine.execAuth b d s
  | .confirm b d => Sys2Proof.Machine.execConfirm b d s
  | .read b d => Sys2Proof.Machine.execRead b d s
  | .write b d => Sys2Proof.Machine.execWrite b d s
  | .flush b d => Sys2Proof.Machine.execFlush b d s
  | .reserved6 b d => Sys2Proof.Machine.execReserved6 b d s
  | .reserved7 b d => Sys2Proof.Machine.execReserved7 b d s
  | .writeId b v => Sys2Proof.Machine.execWriteId b v s

end Sys2Proof.Machine
end

