-- ==== Sys2Proof/Machine/Fetch.lean ====
section
/-! DEFINITION. Where the current instruction comes from: the engine has no program counter and fetches nothing
(10_state.md R23); in IDLE the instruction is the command on the port, afterwards the latched one (R29). -/

namespace Sys2Proof.Machine

/-- The command port: `some c` is `cmd_valid = 1` with the command c (10_state.md R20, 30_encoding.md R81). -/
def State.cmdOffer (s : State) : Option Command := s.input.cmd

/-- The command that is running: the latched operands, decoded (10_state.md R29). -/
def State.running (s : State) : Instr := decodeOp s.op s.block s.wdata

/-- The current instruction: in IDLE the one offered, if any (42_session_commands.md R167); while a command runs, that
command, whatever the port offers. -/
def State.current (s : State) : Option Instr :=
  match s.st with
  | .idle => s.cmdOffer.map decode
  | .tx => some s.running
  | .rx => some s.running
  | .fl => some s.running

/-- The state in IDLE with the command `c` on the port in the coming cycle and `rst = 0`. -/
def State.offering (s : State) (c : Command) : State :=
  { s with
    st := .idle
    script :=
      match s.script with
      | [] => [CycleInput.offer c]
      | i :: rest => { i with rst := false, cmd := some c } :: rest }

end Sys2Proof.Machine
end

