-- ==== Sys2Proof/Machine/Step.lean ====
section
/-! DEFINITION. One clock cycle of the whole machine: the engine's cycle function (42_session_commands.md R163), then the
clock edge for the surroundings. -/

namespace Sys2Proof.Machine

/-- The engine's part of the cycle (42_session_commands.md R163): reset first (R164), else one cycle of the current
instruction, and in IDLE with no command offered nothing but `done_r` (R166). -/
def engineCycle (s : State) : Host.Outcome State Fault Refusal :=
  if s.input.rst then .next (resetEngine s)
  else
    match s.current with
    | none => .next (idleCycle s)
    | some i => exec i s

/-- One step of the machine: one clock cycle (92_eei_decisions.md D1). -/
def step (s : State) : Host.Outcome State Fault Refusal :=
  match engineCycle s with
  | .next t => .next (tick s t)
  | .fault f => .fault f
  | .refused r => .refused r

/-- The state whose next step runs exactly the instruction with the bits `w`: `st` is IDLE, and in the coming cycle the
command is on the command port and `rst` is 0 (log 15). Bits that are no command change nothing. -/
def State.withFetchWord (s : State) (nbits w : Nat) : State :=
  match Command.ofTableWord nbits w with
  | .ok c => s.offering c
  | .error _ => s

end Sys2Proof.Machine
end

