-- ==== Sys2Proof/Machine/Assembler.lean ====
section
/-! DEFINITION. The command syntax: one line of text to an instruction (30_encoding.md R91, R92). -/

namespace Sys2Proof.Machine

/-- Why a line is no command. -/
inductive AsmError where
  /-- The line does not begin with a mnemonic of 30_encoding.md R91, R92. -/
  | unknownMnemonic
  /-- The operands are not numbers, not as many as the mnemonic takes, or too large for their field. -/
  | badOperands
  deriving DecidableEq, Repr

/-- White space inside a line (log 19). -/
def isBlank (c : Char) : Bool := c = ' ' || c = '\t'

/-- A text without the white space at its two ends. -/
def trimBlanks (l : List Char) : List Char := ((l.dropWhile isBlank).reverse.dropWhile isBlank).reverse

/-- The line without its comment: "`;` starts a comment" (R91). -/
def cutComment (l : List Char) : List Char := l.takeWhile fun c => c ≠ ';'

/-- The value of a digit, letters of either case for 10 to 15 (log 19). -/
def digitValue (c : Char) : Nat :=
  if '0' ≤ c ∧ c ≤ '9' then c.toNat - '0'.toNat
  else if 'a' ≤ c ∧ c ≤ 'f' then c.toNat - 'a'.toNat + 10
  else if 'A' ≤ c ∧ c ≤ 'F' then c.toNat - 'A'.toNat + 10
  else 16

/-- A non-empty row of digits of a base. -/
def digits (base : Nat) (l : List Char) : Option Nat :=
  if l ≠ [] ∧ l.all (fun c => digitValue c < base) then some (l.foldl (fun n c => n * base + digitValue c) 0) else none

/-- A number: "decimal unless `0x`-prefixed" (R91). -/
def number (l : List Char) : Option Nat :=
  match l with
  | '0' :: 'x' :: rest => digits 16 rest
  | ds => digits 10 ds

/-- The operands after a mnemonic: numbers separated by commas (R91). -/
def operands (l : List Char) : Option (List Nat) :=
  if l = [] then some [] else (l.splitOn ',').mapM fun p => number (trimBlanks p)

/-- The 16-byte operand of a list of bytes, 0 where the list ends (R91: "Fields a mnemonic does not name are encoded
as 0"). -/
def dataOf (l : List Nat) : Bytes16 := Vector.ofFn fun k => BitVec.ofNat 8 (l.getD k.val 0)

/-- The instruction of a mnemonic and its operands (R91, R92). -/
def assemble (mnemonic : List Char) (ops : List Nat) : Except AsmError Instr :=
  if mnemonic = "AUTH".toList then
    if ops = [] then .ok (.auth 0 zero16) else .error .badOperands
  else if mnemonic = "CONFIRM".toList then
    if ops.length = 4 ∧ ops.all (· < 256) then .ok (.confirm 0 (dataOf ops)) else .error .badOperands
  else if mnemonic = "READ".toList then
    match ops with
    | [b] => if b < 256 then .ok (.read (BitVec.ofNat 8 b) zero16) else .error .badOperands
    | _ => .error .badOperands
  else if mnemonic = "WRITE".toList then
    match ops with
    | [] => .error .badOperands
    | b :: ds =>
      if ds.length = 16 ∧ (b :: ds).all (· < 256) then .ok (.write (BitVec.ofNat 8 b) (dataOf ds))
      else .error .badOperands
  else if mnemonic = "FLUSH".toList then
    if ops = [] then .ok (.flush 0 zero16) else .error .badOperands
  else if mnemonic = ".op".toList then
    match ops with
    | [n] => if n < 8 then .ok (decodeOp (BitVec.ofNat 3 n) 0 zero16) else .error .badOperands
    | _ => .error .badOperands
  else if mnemonic = "WRITE_ID".toList then
    match ops with
    | [b, v] =>
      if b < 256 ∧ v < 2 ^ 32 then .ok (.writeId (BitVec.ofNat 8 b) (BitVec.ofNat 32 v)) else .error .badOperands
    | _ => .error .badOperands
  else .error .unknownMnemonic

/-- One line of a program (R91): a command, or nothing when the line is blank or a comment. -/
def parseLine (line : List Char) : Except AsmError (Option Instr) :=
  let l := trimBlanks (cutComment line)
  if l = [] then .ok none
  else
    match operands (trimBlanks (l.dropWhile fun c => !isBlank c)) with
    | none => .error .badOperands
    | some ops =>
      match assemble (l.takeWhile fun c => !isBlank c) ops with
      | .ok i => .ok (some i)
      | .error e => .error e

end Sys2Proof.Machine
end

