-- ==== Sys2Proof/Machine/Reference.lean ====
section
/-! DEFINITION. The cycle function as 42_session_commands.md R163 and 41_receiver_parser.md R138 write it: one function
of the state and the inputs that looks every constant up by the latched code OP (R161). It is the clear form; `step`,
which runs the meanings of the instructions, is claimed to equal it. -/

namespace Sys2Proof.Machine

/-- `FIRST(OP)` (42_session_commands.md R161). -/
def firstOf (op : BitVec 3) : Option StepId :=
  match op.toFin with
  | 0 => none | 1 => some .auth1 | 2 => some .confirm | 3 => some .read1
  | 4 => some .write1 | 5 => none | 6 => none | 7 => none

/-- `LAST(OP)` (R161). -/
def lastOf (op : BitVec 3) : Option StepId :=
  match op.toFin with
  | 0 => none | 1 => some .auth3 | 2 => some .confirm | 3 => some .read2
  | 4 => some .write2 | 5 => none | 6 => none | 7 => none

/-- `CAPMAX(OP)` (41_receiver_parser.md R142). -/
def capMaxOf (c : Config) (op : BitVec 3) : Nat :=
  if op = 1 then c.const.capMaxAuth else if op = 3 then c.const.capMaxRead else 0

/-- `accept(S, in)` of R163, for the command `c` on the port. -/
def refAccept (s : State) (c : Command) : State :=
  let s1 := { s with
    op := c.op, block := c.block, wdata := c.data
    rdata := zero16, capcnt := 0, marker := false, failStep := 0 }
  match firstOf c.op with
  | some first => { s1 with result := .none, step := first, idx := 0, st := .tx, doneR := false }
  | none =>
    if c.op = 5 then { s1 with result := .none, st := .fl, doneR := false }
    else { s1 with st := .idle, result := .illegal, doneR := true }

/-- `tx_cycle(S)` of R163. -/
def refTx (s : State) : State :=
  if s.idx.toNat = frameLen s.step - 1 then
    { s with st := .rx, cnt := 0, elapsed := 0, prev2 := false, cap := false, doneR := false }
  else { s with idx := s.idx + 1, doneR := false }

/-- `finish(TIMEOUT)` of R163. -/
def refTimeout (s : State) : State :=
  { s with
    st := .idle, result := .timeout, failStep := s.step.bits
    rdata := zero16, capcnt := 0, marker := false, doneR := true }

/-- `rx_cycle(S, rx_valid, rx_data)` of 41_receiver_parser.md R138, with `parse` and `step_complete` written out. -/
def refRx (s : State) : Host.Outcome State Fault Refusal :=
  if s.elapsed > s.cfg.deadlineTicks then .next (refTimeout s)
  else
    match s.rxOffer with
    | none => .next { s with elapsed := s.elapsed + 1, doneR := false }
    | some b =>
      let marks := !s.cap && armed s.step && s.prev2 && decide (b = s.cfg.const.mk1)
      let s1 := { s with
        elapsed := s.elapsed + 1
        cnt := s.cnt + 1
        rdata :=
          if s.cap = true ∧ s.capcnt.toNat < capMaxOf s.cfg s.op then s.rdata.setIfInBounds s.capcnt.toNat b else s.rdata
        capcnt := if s.cap = true ∧ s.capcnt.toNat < capMaxOf s.cfg s.op then s.capcnt + 1 else s.capcnt
        cap := s.cap || marks
        marker := s.marker || marks
        prev2 := decide (b = s.cfg.const.mk0)
        doneR := false }
      if s.cnt.toNat + 1 = s.cfg.expected s.step then
        match lastOf s.op with
        | none => .fault (.noLastStep s.op)
        | some last =>
          if s.step = last then .next { s1 with st := .idle, result := .ok, doneR := true }
          else .next { s1 with step := s.step.succ, idx := 0, st := .tx }
      else .next s1

/-- `next(S, in)` of R163. -/
def cycleFunction (s : State) : Host.Outcome State Fault Refusal :=
  if s.input.rst then .next (resetEngine s)
  else
    match s.st with
    | .idle =>
      match s.cmdOffer with
      | some c => .next (refAccept s c)
      | none => .next { s with doneR := false }
    | .tx => .next (refTx s)
    | .rx => refRx s
    | .fl => .next { s with st := .idle, result := .ok, doneR := true }

end Sys2Proof.Machine
end

