-- ==== Sys2Proof/Safety.lean ====
section
/-! DEFINITION. The terms claims use: runs, the invariant of the reachable states, and what a response makes the engine
capture. -/

namespace Sys2Proof.Machine

/-- `n` clock cycles, stopping at the first fault or refusal. -/
def runSteps : Nat → State → Host.Outcome State Fault Refusal
  | 0, s => .next s
  | n + 1, s =>
    match step s with
    | .next t => runSteps n t
    | .fault f => .fault f
    | .refused r => .refused r

/-- A run of `n` cycles is safe: no cycle stops. -/
def SafeRun (n : Nat) (s : State) : Prop := ∃ t, runSteps n s = .next t

/-- The invariant of the reachable states: the ranges and relations the spec gives the elements of the engine. -/
structure Inv (s : State) : Prop where
  /-- The configuration is a legal one (70_reset_and_hazards.md R233). -/
  const_legal : s.cfg.const.legal
  /-- "0 ≤ `idx` ≤ `N(step) − 1`" in TX (10_state.md R28; 42_session_commands.md R169). -/
  idx_lt : s.st = .tx → s.idx.toNat < frameLen s.step
  /-- In RX the step has not its `E(step)` bytes yet (10_state.md R36). -/
  cnt_lt : s.st = .rx → s.cnt.toNat < s.cfg.expected s.step
  /-- `elapsed` "never exceeds `DEADLINE_TICKS + 1`" (10_state.md R37). -/
  elapsed_le : s.elapsed ≤ s.cfg.deadlineTicks + 1
  /-- In TX and RX, `step` is one of `FIRST(OP)` to `LAST(OP)` (10_state.md R27). -/
  step_range : s.st = .tx ∨ s.st = .rx →
    ∃ first last, firstOf s.op = some first ∧ lastOf s.op = some last ∧ first.num ≤ s.step.num ∧ s.step.num ≤ last.num
  /-- FL is entered by FLUSH alone (10_state.md R26). -/
  fl_op : s.st = .fl → s.op = 5
  /-- "A command that has not ended has RESULT = NONE", and `done` is never high while one runs
  (42_session_commands.md R177, R165). -/
  busy_none : s.st ≠ .idle → s.result = .none ∧ s.doneR = false
  /-- `done` follows an outcome (42_session_commands.md R165). -/
  done_ended : s.doneR = true → s.result ≠ .none
  /-- CAPCNT never exceeds `CAPMAX(OP)` (10_state.md R33; 41_receiver_parser.md R146). -/
  capcnt_le : s.capcnt.toNat ≤ capMaxOf s.cfg s.op
  /-- The places of RDATA not captured hold 0 (10_state.md R32; 93_implementation_defined.md I16). -/
  rdata_zero : ∀ (k : Nat) (h : k < 16), s.capcnt.toNat ≤ k → s.rdata[k] = 0
  /-- Nothing is captured without a marker (41_receiver_parser.md R145). -/
  marker_capcnt : s.marker = false → s.capcnt = 0
  /-- In RX, MARKER is set exactly when the response is in capture mode, which needs an armed step
  (41_receiver_parser.md R143). -/
  cap_marker : s.st = .rx → s.cap = s.marker ∧ (s.cap = true → armed s.step = true)
  /-- No response before a command's armed one sets MARKER, so it is clear while frames are sent (R142). -/
  tx_marker : s.st = .tx ∨ s.st = .fl → s.marker = false
  /-- FAIL_STEP is 0 unless the outcome is TIMEOUT (10_state.md R33). -/
  fail_zero : s.result ≠ .timeout → s.failStep = 0
  /-- After a TIMEOUT, FAIL_STEP is a step of the command, and RDATA, CAPCNT and MARKER are clear
  (42_session_commands.md R176; 60_exceptions.md R201). -/
  timeout_clear : s.result = .timeout →
    s.rdata = zero16 ∧ s.capcnt = 0 ∧ s.marker = false ∧
      ∃ first last, firstOf s.op = some first ∧ lastOf s.op = some last ∧
        first.num ≤ s.failStep.toFin ∧ s.failStep.toFin ≤ last.num
  /-- OK ends a command of the operation map, ILLEGAL a reserved code (42_session_commands.md R177). -/
  ok_op : s.result = .ok → s.op = 1 ∨ s.op = 2 ∨ s.op = 3 ∨ s.op = 4 ∨ s.op = 5
  illegal_op : s.result = .illegal → s.op = 0 ∨ s.op = 6 ∨ s.op = 7

/-- The engine after one accepted byte `b` of a response, before the step completes, for a command that captures at most
`capMax` bytes (41_receiver_parser.md R136, R137, R143 to R147): all effects of the byte in one place. -/
def afterByte (capMax : Nat) (b : Byte) (s : State) : State :=
  { s with
    elapsed := s.elapsed + 1
    cnt := s.cnt + 1
    prev2 := decide (b = s.cfg.const.mk0)
    cap := s.cap || (!s.cap && armed s.step && s.prev2 && decide (b = s.cfg.const.mk1))
    marker := s.marker || (!s.cap && armed s.step && s.prev2 && decide (b = s.cfg.const.mk1))
    rdata := if s.cap = true ∧ s.capcnt.toNat < capMax then s.rdata.setIfInBounds s.capcnt.toNat b else s.rdata
    capcnt := if s.cap = true ∧ s.capcnt.toNat < capMax then s.capcnt + 1 else s.capcnt
    doneR := false }

/-- The bytes of a response after its first marker (2, 0), if it has one (41_receiver_parser.md R143, R147, R148). -/
def afterMarker : List Byte → Option (List Byte)
  | [] => none
  | [_] => none
  | a :: b :: rest => if a = 2 ∧ b = 0 then some rest else afterMarker (b :: rest)

/-- The bytes an armed response makes the engine keep: the first `capMax` bytes after the marker
(41_receiver_parser.md R146, R148). -/
def captured (capMax : Nat) (resp : List Byte) : List Byte := ((afterMarker resp).getD []).take capMax

/-- A buffer that begins with the bytes of a list and is 0 behind them (10_state.md R32). -/
def padded (l : List Byte) : Bytes16 := Vector.ofFn fun k => l.getD k.val 0

/-- Two inputs of a cycle that differ at most in the content, not the number, of the bytes that arrive. -/
structure SameButArriving (i j : CycleInput) : Prop where
  rst : i.rst = j.rst
  cmd : i.cmd = j.cmd
  arrive : i.arrive.length = j.arrive.length
  drain : i.drain = j.drain

/-- Two states that differ at most in what the responses hold: the content, not the number, of the bytes the stream holds
and of those that arrive by the plan, and what the parser made of bytes before (`prev2`, `cap`, CAPCNT, MARKER, RDATA;
41_receiver_parser.md R149). -/
structure SameButContent (s t : State) : Prop where
  st : s.st = t.st
  op : s.op = t.op
  block : s.block = t.block
  wdata : s.wdata = t.wdata
  step : s.step = t.step
  idx : s.idx = t.idx
  cnt : s.cnt = t.cnt
  elapsed : s.elapsed = t.elapsed
  result : s.result = t.result
  failStep : s.failStep = t.failStep
  doneR : s.doneR = t.doneR
  rxHeld : s.stream.rxHeld.length = t.stream.rxHeld.length
  txHeld : s.stream.txHeld = t.stream.txHeld
  script : List.Forall₂ SameButArriving s.script t.script
  cycle : s.cycle = t.cycle
  cfg : s.cfg = t.cfg

end Sys2Proof.Machine
end

