-- ==== Sys2Proof/Certificates/Slice0/Obligations.lean ====
section
/-! DEFINITION. The statements. -/

open Sys2Proof Sys2Proof.Machine

/-! ### Reset -/

/-- 70_reset_and_hazards.md R230: a cycle with `rst = 1` puts every element of the engine at its reset value. -/
def Obligations.ResetCyclePutsEveryElementAtItsResetValue : Prop :=
  ∀ s : State, s.input.rst = true →
    ∃ t, step s = .next t ∧
      t.st = .idle ∧ t.op = 0 ∧ t.block = 0 ∧ t.wdata = zero16 ∧ t.rdata = zero16 ∧ t.step = .auth1 ∧ t.idx = 0 ∧
      t.cnt = 0 ∧ t.elapsed = 0 ∧ t.prev2 = false ∧ t.cap = false ∧ t.capcnt = 0 ∧ t.marker = false ∧
      t.result = .none ∧ t.failStep = 0 ∧ t.doneR = false

/-- 70_reset_and_hazards.md R232: reset reaches the engine alone. In FL the `flush` output is 1 in the same cycle, so
that state is left out (log 10); that the byte offered in the reset cycle stays in the stream is log 9. -/
def Obligations.ResetLeavesStreamAndConfiguration : Prop :=
  ∀ s t : State, s.input.rst = true → step s = .next t →
    t.cfg = s.cfg ∧ (s.st ≠ .fl → t.stream.rxHeld = s.rxQueue)

/-- 70_reset_and_hazards.md R231: the outputs after reset. -/
def Obligations.OutputsAfterReset : Prop :=
  (∀ s t : State, s.input.rst = true → step s = .next t →
    t.outputs =
      { cmdReady := true, txValid := false, txData := 0, rxReady := false, flush := false, done := false,
        rdata := zero16, status := 0x0000 }) ∧
  State.reset.outputs =
    { cmdReady := true, txValid := false, txData := 0, rxReady := false, flush := false, done := false,
      rdata := zero16, status := 0x0000 }

/-! ### Encodings -/

/-- 30_encoding.md R81, R82, R92: the decoder reads back every instruction it is given the command of; the command of
WRITE_ID is that of the WRITE it expands to. -/
def Obligations.DecodeOfEncodeIsTheInstruction : Prop :=
  (∀ i : Instr, i.wellFormed = true → decode (encode i) = i) ∧
  (∀ (b : Byte) (v : BitVec 32), decode (encode (.writeId b v)) = .write b (encodeU32 v))

/-- 30_encoding.md R80 to R84: every command has one meaning, and no bit of it is dropped. -/
def Obligations.EncodeOfDecodeIsTheCommand : Prop :=
  ∀ c : Command, encode (decode c) = c ∧ (decode c).wellFormed = true

/-- The flat numbering of a command's bits (30_encoding.md R81 for the data operand; the model's own choice that it
follows the command word, log 14) loses nothing, and a wider row of bits is refused. -/
def Obligations.FlatNumberingLosesNothing : Prop :=
  (∀ c : Command, c.toFlat < 2 ^ 139 ∧ Command.ofFlat c.toFlat = .ok c) ∧
  (∀ w : Nat, 2 ^ 139 ≤ w → decodeFlat w = .error .tooWide)

/-- Command words of 95_test_vectors.md (programs P1 to P4, vector K3) decode to the commands they stand for. -/
def Obligations.SpecCommandWordsDecode : Prop :=
  decode { cw := 0x000, data := zero16 } = .reserved0 0 zero16 ∧
  decode { cw := 0x001, data := zero16 } = .auth 0 zero16 ∧
  decode { cw := 0x002, data := #v[9, 9, 9, 9, 0, 0, 0, 0, 0, 0, 0, 0, 0, 0, 0, 0] } =
    .confirm 0 #v[9, 9, 9, 9, 0, 0, 0, 0, 0, 0, 0, 0, 0, 0, 0, 0] ∧
  decode { cw := 0x02B, data := zero16 } = .read 5 zero16 ∧
  decode { cw := 0x04C, data := #v[0, 0, 0, 0, 0, 0, 0, 0, 0, 0, 0, 0, 0, 0, 0, 0x2A] } =
    .write 9 #v[0, 0, 0, 0, 0, 0, 0, 0, 0, 0, 0, 0, 0, 0, 0, 0x2A] ∧
  decode { cw := 0x005, data := zero16 } = .flush 0 zero16 ∧
  decode { cw := 0x7FE, data := Vector.replicate 16 0xFF } = .reserved6 0xFF (Vector.replicate 16 0xFF) ∧
  decode { cw := 0x007, data := zero16 } = .reserved7 0 zero16

/-- 30_encoding.md R92: WRITE_ID is a WRITE of the value, big-endian in bytes 12 to 15 of an all-zero buffer, and
`decode_u32` reads the value back. -/
def Obligations.WriteIdIsAWriteOfTheValue : Prop :=
  ∀ (blk : Byte) (v : BitVec 32),
    encode (.writeId blk v) =
      encode (.write blk #v[0, 0, 0, 0, 0, 0, 0, 0, 0, 0, 0, 0,
        v.extractLsb' 24 8, v.extractLsb' 16 8, v.extractLsb' 8 8, v.extractLsb' 0 8]) ∧
    (∀ s : State, exec (.writeId blk v) s = exec (.write blk (encodeU32 v)) s) ∧
    decodeU32 (encode (.writeId blk v)).data = v

/-- 30_encoding.md R91: the operands a mnemonic names reach their fields, every field it does not name is 0, and `.op`
reaches every code. -/
def Obligations.AssemblerFillsTheNamedFields : Prop :=
  assemble "AUTH".toList [] = .ok (.auth 0 zero16) ∧
  assemble "FLUSH".toList [] = .ok (.flush 0 zero16) ∧
  (∀ p0 p1 p2 p3 : Byte, ∃ d : Bytes16,
    assemble "CONFIRM".toList [p0.toNat, p1.toNat, p2.toNat, p3.toNat] = .ok (.confirm 0 d) ∧
      d.toList = [p0, p1, p2, p3] ++ List.replicate 12 0) ∧
  (∀ b : Byte, assemble "READ".toList [b.toNat] = .ok (.read b zero16)) ∧
  (∀ (b : Byte) (d : Bytes16), assemble "WRITE".toList (b.toNat :: d.toList.map BitVec.toNat) = .ok (.write b d)) ∧
  (∀ (b : Byte) (v : BitVec 32), assemble "WRITE_ID".toList [b.toNat, v.toNat] = .ok (.writeId b v)) ∧
  (∀ op : BitVec 3, ∃ i, assemble ".op".toList [op.toNat] = .ok i ∧ i.opcode = op ∧ i.block = 0 ∧ i.data = zero16)

/-! ### Frame Codec -/

/-- 40_frame_codec.md R101: the check byte is the XOR-fold; it does not depend on the order of the payload, a byte that
occurs an even number of times contributes nothing, and the six FILL bytes cancel. -/
def Obligations.ChecksumIgnoresOrderAndPairs : Prop :=
  (∀ (seed : Byte) (p : List Byte), checksum seed p = p.foldl (fun a b => a ^^^ b) seed) ∧
  (∀ (seed : Byte) (p q : List Byte), p.Perm q → checksum seed p = checksum seed q) ∧
  (∀ (seed b : Byte) (p : List Byte), p.count b % 2 = 0 → checksum seed p = checksum seed (p.filter fun x => x ≠ b)) ∧
  (∀ (seed fill : Byte) (p : List Byte), checksum seed (p ++ List.replicate 6 fill) = checksum seed p)

/-- 40_frame_codec.md R102: every frame begins with the 8-byte header of its step, whatever the operands are. -/
def Obligations.FramesBeginWithTheHeader : Prop :=
  ∀ (c : Config) (block : Byte) (d : Bytes16) (s : StepId),
    (frame c block d s).take 8 =
      [c.const.sync0, c.const.sync1, c.len[s.num], c.const.hdr3, c.const.hdr4, c.const.hdr5, c.group[s.num],
        c.code[s.num]] ∧
    (c.const = Constants.source →
      (frame c block d s).take 8 = [0xAA, 0xBB, c.len[s.num], 0x00, 0x00, 0x00, c.group[s.num], c.code[s.num]])

/-- 40_frame_codec.md R103 to R110: the payload and check byte of each of the eight frames, with the source's values of
the seeds, FILL and W1_BLOCK (00_scope.md R6). -/
def Obligations.PayloadAndCheckOfTheEightFrames : Prop :=
  ∀ (c : Config) (block : Byte) (d : Bytes16), c.const = Constants.source →
    (frame c block d .auth1).drop 8 = [] ∧
    (frame c block d .auth2).drop 8 = [] ∧
    (frame c block d .auth3).drop 8 = [] ∧
    (frame c block d .confirm).drop 8 = [d[0], d[1], d[2], d[3], 0x01 ^^^ d[0] ^^^ d[1] ^^^ d[2] ^^^ d[3]] ∧
    (frame c block d .read1).drop 8 = [block, 0xFF, 0xFF, 0xFF, 0xFF, 0xFF, 0xFF, 0x65 ^^^ block] ∧
    (frame c block d .read2).drop 8 = [block, 0x0A ^^^ block] ∧
    (frame c block d .write1).drop 8 = [0x04, 0xFF, 0xFF, 0xFF, 0xFF, 0xFF, 0xFF, c.w1Check] ∧
    (frame c block d .write2).drop 8 = d.toList ++ [d.toList.foldl (fun a b => a ^^^ b) 0x0F]

/-- 40_frame_codec.md R111: the frame lengths, and with the source's values the table of payload bytes, check bytes,
frame length and expected response bytes of each step. -/
def Obligations.FrameAndResponseLengths : Prop :=
  (∀ (c : Config) (block : Byte) (d : Bytes16) (s : StepId),
    frameLen s = 8 + (payload c block d s).length + (check c block d s).length ∧
    (frame c block d s).length = frameLen s) ∧
  (∀ (c : Config) (block : Byte) (d : Bytes16), c.const = Constants.source →
    [StepId.auth1, .auth2, .auth3, .confirm, .read1, .read2, .write1, .write2].map
        (fun s => ((payload c block d s).length, (check c block d s).length, frameLen s, c.expected s)) =
      [(0, 0, 8, 10), (0, 0, 8, 12), (0, 0, 8, 14), (4, 1, 13, 11), (7, 1, 16, 10), (1, 1, 10, 25), (7, 1, 16, 11),
        (16, 1, 25, 10)])

/-- 40_frame_codec.md R112: the byte at each offset of a frame, with the source's header constants. -/
def Obligations.FrameByteByOffset : Prop :=
  ∀ (c : Config) (block : Byte) (d : Bytes16) (s : StepId) (i : BitVec 5),
    c.const = Constants.source → i.toNat < frameLen s →
    some (frameByte c block d s i) = (frame c block d s)[i.toNat]? ∧
    (i = 0 → frameByte c block d s i = 0xAA) ∧
    (i = 1 → frameByte c block d s i = 0xBB) ∧
    (i = 2 → frameByte c block d s i = c.len[s.num]) ∧
    (i = 3 ∨ i = 4 ∨ i = 5 → frameByte c block d s i = 0x00) ∧
    (i = 6 → frameByte c block d s i = c.group[s.num]) ∧
    (i = 7 → frameByte c block d s i = c.code[s.num]) ∧
    (8 ≤ i.toNat → i.toNat < 8 + (payload c block d s).length →
      some (frameByte c block d s i) = (payload c block d s)[i.toNat - 8]?) ∧
    (i.toNat = 8 + (payload c block d s).length → some (frameByte c block d s i) = (check c block d s)[0]?)

/-- 10_state.md R30, R31; 40_frame_codec.md R106, R109: the block operand reaches the frames of READ alone, and a frame
of CONFIRM carries `WDATA[0..3]` alone; the frames of AUTH carry no operand. -/
def Obligations.FramesIgnoreTheOperandsTheyDoNotCarry : Prop :=
  (∀ (c : Config) (b b' : Byte) (d : Bytes16) (s : StepId), s ≠ .read1 → s ≠ .read2 → frame c b d s = frame c b' d s) ∧
  (∀ (c : Config) (b : Byte) (d d' : Bytes16) (s : StepId), s ≠ .confirm → s ≠ .write2 → frame c b d s = frame c b d' s) ∧
  (∀ (c : Config) (b : Byte) (d d' : Bytes16), d[0] = d'[0] → d[1] = d'[1] → d[2] = d'[2] → d[3] = d'[3] →
    frame c b d .confirm = frame c b d' .confirm)

/-! ### Outputs -/

/-- 10_state.md R41: every output is a function of the state alone; the codes of RESULT in STATUS are those of R33. -/
def Obligations.OutputsOfTheState : Prop :=
  ∀ s : State,
    (s.outputs.cmdReady = true ↔ s.st = .idle) ∧
    (s.outputs.txValid = true ↔ s.st = .tx) ∧
    (s.st = .tx → s.outputs.txData = frameByte s.cfg s.block s.wdata s.step s.idx) ∧
    (s.st ≠ .tx → s.outputs.txData = 0x00) ∧
    (s.outputs.rxReady = true ↔ s.st = .rx ∧ s.elapsed ≤ s.cfg.deadlineTicks) ∧
    (s.outputs.flush = true ↔ s.st = .fl) ∧
    s.outputs.done = s.doneR ∧
    s.outputs.rdata = s.rdata ∧
    s.outputs.status =
      0#1 ++ s.op ++ s.capcnt ++ BitVec.ofBool s.marker ++ s.failStep ++
        (match s.result with | .none => 0#2 | .ok => 1#2 | .timeout => 2#2 | .illegal => 3#2) ++
        BitVec.ofBool (decide (s.st ≠ .idle))

/-- 41_receiver_parser.md R134: when a byte is accepted; that none is under reset is 42_session_commands.md R164
(log 9). -/
def Obligations.ByteIsAcceptedInTheWindowAlone : Prop :=
  ∀ s : State,
    s.takesByte = true ↔
      s.input.rst = false ∧ s.st = .rx ∧ s.elapsed ≤ s.cfg.deadlineTicks ∧ s.rxOffer.isSome = true

/-- 10_state.md R33: the fields of the STATUS word, with the codes 0 NONE, 1 OK, 2 TIMEOUT, 3 ILLEGAL of
RESULT. -/
def Obligations.StatusWordFields : Prop :=
  ∀ s : State,
    (s.status.extractLsb' 0 1 = 1 ↔ s.st ≠ .idle) ∧
    s.status.extractLsb' 1 2 = (match s.result with | .none => 0 | .ok => 1 | .timeout => 2 | .illegal => 3) ∧
    s.status.extractLsb' 3 3 = s.failStep ∧
    (s.status.extractLsb' 6 1 = 1 ↔ s.marker = true) ∧
    s.status.extractLsb' 7 5 = s.capcnt ∧
    s.status.extractLsb' 12 3 = s.op ∧
    s.status.extractLsb' 15 1 = 0

/-! ### The accept cycle -/

/-- 42_session_commands.md R168: in IDLE, AUTH, CONFIRM, READ, WRITE and WRITE_ID latch their operands, clear the result
state and enter TX at the first byte of their first step's frame. Nothing else changes. -/
def Obligations.StepCommandsLatchAndEnterTx : Prop :=
  ∀ (s : State) (b : Byte) (d : Bytes16) (v : BitVec 32), s.st = .idle →
    exec (.auth b d) s = .next { s with
      op := 1, block := b, wdata := d, rdata := zero16, capcnt := 0, marker := false, failStep := 0, result := .none,
      step := .auth1, idx := 0, st := .tx, doneR := false } ∧
    exec (.confirm b d) s = .next { s with
      op := 2, block := b, wdata := d, rdata := zero16, capcnt := 0, marker := false, failStep := 0, result := .none,
      step := .confirm, idx := 0, st := .tx, doneR := false } ∧
    exec (.read b d) s = .next { s with
      op := 3, block := b, wdata := d, rdata := zero16, capcnt := 0, marker := false, failStep := 0, result := .none,
      step := .read1, idx := 0, st := .tx, doneR := false } ∧
    exec (.write b d) s = .next { s with
      op := 4, block := b, wdata := d, rdata := zero16, capcnt := 0, marker := false, failStep := 0, result := .none,
      step := .write1, idx := 0, st := .tx, doneR := false } ∧
    exec (.writeId b v) s = .next { s with
      op := 4, block := b, wdata := encodeU32 v, rdata := zero16, capcnt := 0, marker := false, failStep := 0,
      result := .none, step := .write1, idx := 0, st := .tx, doneR := false }

/-- 42_session_commands.md R185: a reserved code ends in its accept cycle with ILLEGAL; nothing else happens. -/
def Obligations.ReservedCodesEndIllegal : Prop :=
  ∀ (s : State) (b : Byte) (d : Bytes16), s.st = .idle →
    s.outputs.txValid = false ∧ s.outputs.flush = false ∧
    exec (.reserved0 b d) s = .next { s with
      op := 0, block := b, wdata := d, rdata := zero16, capcnt := 0, marker := false, failStep := 0, result := .illegal,
      doneR := true } ∧
    exec (.reserved6 b d) s = .next { s with
      op := 6, block := b, wdata := d, rdata := zero16, capcnt := 0, marker := false, failStep := 0, result := .illegal,
      doneR := true } ∧
    exec (.reserved7 b d) s = .next { s with
      op := 7, block := b, wdata := d, rdata := zero16, capcnt := 0, marker := false, failStep := 0, result := .illegal,
      doneR := true }

/-- 42_session_commands.md R184: FLUSH enters FL, where `flush` is 1, and the FL cycle ends it with OK. -/
def Obligations.FlushPulsesFlushAndEndsOk : Prop :=
  (∀ (s : State) (b : Byte) (d : Bytes16), s.st = .idle →
    exec (.flush b d) s = .next { s with
      op := 5, block := b, wdata := d, rdata := zero16, capcnt := 0, marker := false, failStep := 0, result := .none,
      st := .fl, doneR := false }) ∧
  (∀ (s : State) (b : Byte) (d : Bytes16), s.st = .fl →
    s.outputs.flush = true ∧ s.outputs.txValid = false ∧ s.outputs.rxReady = false ∧
    exec (.flush b d) s = .next { s with st := .idle, result := .ok, doneR := true })

/-- 10_state.md R29, 42_session_commands.md R168: while a command runs, the operands offered are not read. -/
def Obligations.OperandsAreReadInTheAcceptCycleOnly : Prop :=
  ∀ (i j : Instr) (s : State), s.st ≠ .idle → i.opcode = j.opcode → exec i s = exec j s

/-! ### TX and RX cycles -/

/-- 42_session_commands.md R169, R170: a TX cycle offers the frame byte at `idx`; the last one opens the receive window,
every other one moves to the next byte. It holds for every instruction. -/
def Obligations.TransmitCycleOffersOneByteAndAdvances : Prop :=
  ∀ (i : Instr) (s : State), s.st = .tx → s.idx.toNat < frameLen s.step →
    s.outputs.txValid = true ∧ some s.outputs.txData = (frame s.cfg s.block s.wdata s.step)[s.idx.toNat]? ∧
    s.outputs.rxReady = false ∧
    (s.idx.toNat = frameLen s.step - 1 →
      exec i s = .next { s with st := .rx, cnt := 0, elapsed := 0, prev2 := false, cap := false, doneR := false }) ∧
    (s.idx.toNat ≠ frameLen s.step - 1 → exec i s = .next { s with idx := s.idx + 1, doneR := false })

/-- 41_receiver_parser.md R135: past the deadline no byte is taken and the command ends with TIMEOUT, with the step's
number (00_scope.md R13) in FAIL_STEP. -/
def Obligations.PastTheDeadlineTheStepTimesOut : Prop :=
  ∀ (i : Instr) (s : State), s.st = .rx → s.cfg.deadlineTicks < s.elapsed →
    s.takesByte = false ∧
    exec i s = .next { s with
      st := .idle, result := .timeout, rdata := zero16, capcnt := 0, marker := false, doneR := true
      failStep := (match s.step with
        | .auth1 => 0 | .auth2 => 1 | .auth3 => 2 | .confirm => 3
        | .read1 => 4 | .read2 => 5 | .write1 => 6 | .write2 => 7) }

/-- 41_receiver_parser.md R139: a window cycle without a byte changes `elapsed` alone (`done_r` is 0 in RX). -/
def Obligations.WindowCycleWithoutByteCountsOn : Prop :=
  ∀ (i : Instr) (s : State), s.st = .rx → s.elapsed ≤ s.cfg.deadlineTicks → s.rxOffer = none →
    s.outputs.rxReady = true ∧ exec i s = .next { s with elapsed := s.elapsed + 1, doneR := false }

/-- 41_receiver_parser.md R136, R137, R143 to R147: a byte that does not complete the step is parsed and counted. -/
def Obligations.WindowCycleTakesAndParsesOneByte : Prop :=
  ∀ (i : Instr) (s : State) (b : Byte), s.st = .rx → s.elapsed ≤ s.cfg.deadlineTicks → s.rxOffer = some b →
    s.cnt.toNat + 1 ≠ s.cfg.expected s.step →
    exec i s = .next (afterByte (capMaxOf s.cfg i.opcode) b s)

/-- 42_session_commands.md R173: the byte that completes a step that is not the command's last starts the next step. -/
def Obligations.CompletedStepStartsTheNext : Prop :=
  ∀ (i : Instr) (s : State) (b : Byte) (last : StepId), s.st = .rx → s.elapsed ≤ s.cfg.deadlineTicks →
    s.rxOffer = some b → s.cnt.toNat + 1 = s.cfg.expected s.step → lastOf i.opcode = some last → s.step ≠ last →
    exec i s = .next { afterByte (capMaxOf s.cfg i.opcode) b s with
      step := s.step.succ, idx := 0, st := .tx }

/-- 42_session_commands.md R174, R176, R177; 41_receiver_parser.md R137: the byte that completes the last step of AUTH,
CONFIRM, READ, WRITE or WRITE_ID ends the command with OK, up to and including the window's last cycle. -/
def Obligations.LastByteEndsTheCommandWithOk : Prop :=
  ∀ (s : State) (x : Byte) (b : Byte) (d : Bytes16) (v : BitVec 32),
    s.st = .rx → s.elapsed ≤ s.cfg.deadlineTicks → s.rxOffer = some x → s.cnt.toNat + 1 = s.cfg.expected s.step →
    (s.step = .auth3 →
      exec (.auth b d) s =
        .next { afterByte s.cfg.const.capMaxAuth x s with st := .idle, result := .ok, doneR := true }) ∧
    (s.step = .confirm →
      exec (.confirm b d) s = .next { afterByte 0 x s with st := .idle, result := .ok, doneR := true }) ∧
    (s.step = .read2 →
      exec (.read b d) s =
        .next { afterByte s.cfg.const.capMaxRead x s with st := .idle, result := .ok, doneR := true }) ∧
    (s.step = .write2 →
      exec (.write b d) s = .next { afterByte 0 x s with st := .idle, result := .ok, doneR := true } ∧
      exec (.writeId b v) s = .next { afterByte 0 x s with st := .idle, result := .ok, doneR := true })

/-- The model's own stop (log 13): a receive step cannot complete for FLUSH or a reserved code, which have no
LAST(OP). -/
def Obligations.CommandsWithoutStepsStopAtAStepEnd : Prop :=
  ∀ (i : Instr) (s : State) (b : Byte), s.st = .rx → s.elapsed ≤ s.cfg.deadlineTicks → s.rxOffer = some b →
    s.cnt.toNat + 1 = s.cfg.expected s.step → lastOf i.opcode = none → exec i s = .fault (.noLastStep i.opcode)

/-- 41_receiver_parser.md R143, R145 to R148: over a whole armed response, the parser keeps exactly the first `capMax`
bytes after the first (2, 0) pair, the source's marker bytes, and MARKER says whether there was one. -/
def Obligations.ParserKeepsTheBytesAfterTheFirstMarker : Prop :=
  ∀ (capMax : Nat) (s : State) (resp : List Byte), s.cfg.const.mk0 = 2 → s.cfg.const.mk1 = 0 →
    capMax ≤ 16 → armed s.step = true → s.cap = false →
    s.prev2 = false → s.marker = false → s.capcnt = 0 → s.rdata = zero16 →
    (resp.foldl (fun u b => parse capMax b u) s).rdata = padded (captured capMax resp) ∧
    (resp.foldl (fun u b => parse capMax b u) s).capcnt.toNat = (captured capMax resp).length ∧
    (resp.foldl (fun u b => parse capMax b u) s).marker = (afterMarker resp).isSome ∧
    (resp.foldl (fun u b => parse capMax b u) s).cap = (afterMarker resp).isSome

/-! ### One step of the machine -/

/-- 42_session_commands.md R163, R164, R167: without reset, a step is `exec` of the command on the port in IDLE and of
the latched command otherwise, then the clock edge for the surroundings (`tick`: the model's inputs, log 6, and
stream, log 7, 9 to 11 and 21); with no command offered in IDLE only `done_r` changes in the engine (R166). -/
def Obligations.StepRunsTheDecodedInstruction : Prop :=
  (∀ (s t : State) (c : Command), s.input.rst = false → s.st = .idle → s.cmdOffer = some c →
    exec (decode c) s = .next t → step s = .next (tick s t)) ∧
  (∀ s t : State, s.input.rst = false → s.st ≠ .idle →
    exec (decodeOp s.op s.block s.wdata) s = .next t → step s = .next (tick s t)) ∧
  (∀ (s : State) (f : Fault), s.input.rst = false → s.st ≠ .idle →
    exec (decodeOp s.op s.block s.wdata) s = .fault f → step s = .fault f) ∧
  (∀ s : State, s.input.rst = false → s.st = .idle → s.cmdOffer = none → step s = .next (tick s { s with doneR := false }))

/-- 42_session_commands.md R166: in IDLE with no command offered nothing but `done_r` changes in the engine, no byte is
sent or taken, and the stream keeps every received byte it has. That the stream passes `drain` sent bytes on to the
reader is the model's choice (log 21), and the plan and the cycle number are the model's own (log 6). -/
def Obligations.IdleCycleChangesDoneAlone : Prop :=
  ∀ s : State, s.input.rst = false → s.st = .idle → s.cmdOffer = none →
    s.outputs.txValid = false ∧ s.outputs.rxReady = false ∧ s.outputs.flush = false ∧
    step s = .next { s with
      doneR := false
      stream := { rxHeld := s.rxQueue, txHeld := s.stream.txHeld.drop s.input.drain }
      script := s.script.tail
      cycle := s.cycle + 1 }

/-- 42_session_commands.md R163: the step that runs the meanings of the instructions is the spec's cycle function,
followed by the clock edge for the surroundings, which is the model's (`tick`; log 6, 7, 9 to 11, 21). The branch for a
command without LAST(OP) is the model's too (log 13). -/
def Obligations.StepIsTheSpecsCycleFunction : Prop :=
  ∀ s : State, step s =
    match cycleFunction s with
    | .next t => .next (tick s t)
    | .fault f => .fault f
    | .refused r => .refused r

/-- 70_reset_and_hazards.md R238, 41_receiver_parser.md R134, 20_memory.md R68: what a step does to the stream. A
byte leaves the receive buffer exactly when it is accepted or flushed, oldest first, and every byte offered is taken.
Several clauses are the model's: a byte offered in an RX cycle under reset stays (log 9), the FL cycle flushes under reset
too (log 10) and discards what arrives in it (log 7), the byte of a TX cycle under reset is taken (log 11), and `drain`
sent bytes are passed on (log 21). -/
def Obligations.StreamKeepsEveryByteNotTaken : Prop :=
  ∀ s t : State, step s = .next t →
    (s.st = .fl → t.stream = { rxHeld := [], txHeld := [] }) ∧
    (s.st = .rx → s.input.rst = false → s.elapsed ≤ s.cfg.deadlineTicks → t.stream.rxHeld = s.rxQueue.tail) ∧
    (s.st ≠ .fl → (s.st ≠ .rx ∨ s.input.rst = true ∨ s.cfg.deadlineTicks < s.elapsed) → t.stream.rxHeld = s.rxQueue) ∧
    (s.st = .tx → s.idx.toNat < frameLen s.step → ∃ x, (frame s.cfg s.block s.wdata s.step)[s.idx.toNat]? = some x ∧
      t.stream.txHeld = (s.stream.txHeld ++ [x]).drop s.input.drain) ∧
    (s.st = .idle ∨ s.st = .rx → t.stream.txHeld = s.stream.txHeld.drop s.input.drain)

/-! ### Rules of the whole machine -/

/-- 10_state.md R25 to R39: the invariant holds at reset. -/
def Obligations.InvariantHoldsAtReset : Prop := Inv State.reset

/-- 10_state.md R27, R28, R32 to R39; 42_session_commands.md R165, R177: every step keeps the invariant, whatever the
host and the stream do. -/
def Obligations.EveryStepKeepsTheInvariant : Prop :=
  ∀ s t : State, Inv s → step s = .next t → Inv t

/-- 60_exceptions.md R204: no outcome is fatal; from a state that meets the invariant no run stops. -/
def Obligations.NoRunFromTheInvariantStops : Prop :=
  ∀ (s : State) (n : Nat), Inv s → SafeRun n s

/-- 10_state.md R29: OP, BLOCK and WDATA change at an accept, where they take the command's values, and at reset alone;
and the outputs do not depend on what comes in. -/
def Obligations.OperandLatchChangesAtAcceptAndResetAlone : Prop :=
  (∀ s t : State, step s = .next t →
    (s.input.rst = true → t.op = 0 ∧ t.block = 0 ∧ t.wdata = zero16) ∧
    (∀ c, s.input.rst = false → s.st = .idle → s.cmdOffer = some c →
      t.op = c.op ∧ t.block = c.block ∧ t.wdata = c.data) ∧
    (s.input.rst = false → s.st ≠ .idle ∨ s.cmdOffer = none →
      t.op = s.op ∧ t.block = s.block ∧ t.wdata = s.wdata)) ∧
  (∀ (s : State) (plan : List CycleInput), State.outputs { s with script := plan } = s.outputs)

/-- 93_implementation_defined.md I13; 70_reset_and_hazards.md R232, R233: no step changes the configuration. -/
def Obligations.ConfigurationNeverChanges : Prop :=
  ∀ (s t : State) (n : Nat), runSteps n s = .next t → t.cfg = s.cfg

/-- 42_session_commands.md R165: `done_r` is 1 after exactly the cycles in which a command ends. -/
def Obligations.DoneFollowsTheEndOfACommand : Prop :=
  ∀ s t : State, step s = .next t →
    (t.doneR = true ↔
      s.input.rst = false ∧
        ((s.st = .idle ∧ ∃ c, s.cmdOffer = some c ∧ (c.op = 0 ∨ c.op = 6 ∨ c.op = 7)) ∨
         (s.st ≠ .idle ∧ t.st = .idle))) ∧
    (t.doneR = true → t.st = .idle)

/-- 42_session_commands.md R160, R167; 20_memory.md R74: while a command runs, what the command port carries is not
seen. -/
def Obligations.RunningCommandDoesNotSeeTheCommandPort : Prop :=
  ∀ (s : State) (i : CycleInput) (c : Option Command) (plan : List CycleInput), s.st ≠ .idle →
    step { s with script := i :: plan } = step { s with script := { i with cmd := c } :: plan }

/-- 42_session_commands.md R162, R173; 10_state.md R27: while a command runs, a new frame begins only when a
response is complete that is not the last step's, and it is the frame of the next step; in every other cycle `step` is
unchanged. So the steps run in order, and none is skipped or repeated. -/
def Obligations.StepsRunInOrder : Prop :=
  ∀ s t : State, Inv s → step s = .next t → s.input.rst = false → s.st ≠ .idle →
    (s.st = .rx ∧ t.st = .tx →
      s.cnt.toNat + 1 = s.cfg.expected s.step ∧ lastOf s.op ≠ some s.step ∧
        t.step.num.val = s.step.num.val + 1) ∧
    (¬ (s.st = .rx ∧ t.st = .tx) → t.step = s.step) ∧
    (s.st ≠ .rx → t.st = .tx → s.st = .tx ∧ t.idx = s.idx + 1) ∧
    (t.st = .idle → t.result = .ok → s.st = .rx → lastOf s.op = some s.step ∧ s.cnt.toNat + 1 = s.cfg.expected s.step)

/-- 10_state.md R32, R43: RDATA changes only at an accept, at reset, at a timeout, and where a captured byte is stored,
at the place CAPCNT. -/
def Obligations.RdataIsWrittenByCaptureAcceptAndTimeoutAlone : Prop :=
  ∀ s t : State, step s = .next t → t.rdata ≠ s.rdata →
    (t.rdata = zero16 ∧
      (s.input.rst = true ∨ (s.st = .idle ∧ s.cmdOffer.isSome = true) ∨
        (s.st = .rx ∧ s.cfg.deadlineTicks < s.elapsed ∧ t.result = .timeout))) ∨
    (s.st = .rx ∧ s.cap = true ∧ s.elapsed ≤ s.cfg.deadlineTicks ∧ t.capcnt = s.capcnt + 1 ∧
      ∃ b, s.rxOffer = some b ∧ t.rdata = s.rdata.setIfInBounds s.capcnt.toNat b)

/-- 42_session_commands.md R174, 40_frame_codec.md R113: what the responses hold decides nothing but what is captured.
Two runs that differ in the content of the received bytes alone, of those held and of those that the plan lets arrive,
stay alike in everything else, bytes sent included. -/
def Obligations.ResponseContentDecidesOnlyTheCapture : Prop :=
  ∀ (n : Nat) (s t s' : State), SameButContent s t → runSteps n s = .next s' →
    ∃ t', runSteps n t = .next t' ∧ SameButContent s' t'

/-! ### Whole commands -/

/-- 42_session_commands.md R169, 41_receiver_parser.md R131: a frame is sent whole, one byte a cycle and without a gap;
no byte is taken before its receive window opens. -/
def Obligations.FrameIsSentWholeBeforeTheWindowOpens : Prop :=
  ∀ (s : State) (plan : List CycleInput), s.st = .tx → s.idx = 0 →
    s.script = List.replicate (frameLen s.step) CycleInput.quiet ++ plan →
    ∃ t, runSteps (frameLen s.step) s = .next t ∧
      t.st = .rx ∧ t.step = s.step ∧ t.cnt = 0 ∧ t.elapsed = 0 ∧ t.prev2 = false ∧ t.cap = false ∧ t.script = plan ∧
      t.stream.rxHeld = s.stream.rxHeld ∧
      t.stream.txHeld = s.stream.txHeld ++ frame s.cfg s.block s.wdata s.step

/-- 41_receiver_parser.md R135, R141; 42_session_commands.md R175, R176; 70_reset_and_hazards.md R242: a step whose
stream holds too few bytes and receives no more times out after its whole window and one cycle, with its number (00_scope.md R13) in FAIL_STEP. -/
def Obligations.TooFewBytesTimeOutAfterTheWindow : Prop :=
  ∀ (s : State) (plan : List CycleInput) (n : Nat), Inv s → s.st = .rx →
    s.elapsed + n = s.cfg.deadlineTicks + 2 → s.script = List.replicate n CycleInput.quiet ++ plan →
    s.cnt.toNat + s.stream.rxHeld.length < s.cfg.expected s.step →
    ∃ t, runSteps n s = .next t ∧
      t.st = .idle ∧ t.doneR = true ∧ t.result = .timeout ∧ t.op = s.op ∧
      t.failStep = (match s.step with
        | .auth1 => 0 | .auth2 => 1 | .auth3 => 2 | .confirm => 3
        | .read1 => 4 | .read2 => 5 | .write1 => 6 | .write2 => 7) ∧
      t.rdata = zero16 ∧ t.capcnt = 0 ∧ t.marker = false ∧ t.script = plan ∧
      t.stream = { rxHeld := s.stream.rxHeld.drop (n - 1), txHeld := s.stream.txHeld }

/-- 42_session_commands.md R177; 70_reset_and_hazards.md R241, R242: a running command ends within the longest latency
a command of three steps can have, whatever the host and the stream do. -/
def Obligations.EveryCommandEndsInBoundedTime : Prop :=
  ∀ s : State, Inv s → ∃ n t, n ≤ 3 * (25 + s.cfg.deadlineTicks + 2) ∧ runSteps n s = .next t ∧ t.st = .idle

/-- 42_session_commands.md R180; 70_reset_and_hazards.md R241: AUTH with the source's values and a stream that answers
at once: 61 cycles, OK, the password captured from auth-3's response, the three frames sent, exactly the three
responses taken. -/
def Obligations.AuthCompletesWithThePassword : Prop :=
  ∀ (s : State) (b : Byte) (d : Bytes16) (r1 r2 r3 rest : List Byte) (plan : List CycleInput),
    s.cfg.const = Constants.source → s.st = .idle →
    s.script = CycleInput.offer (encode (.auth b d)) :: (List.replicate 60 CycleInput.quiet ++ plan) →
    s.stream.rxHeld = r1 ++ r2 ++ r3 ++ rest → r1.length = 10 → r2.length = 12 → r3.length = 14 →
    13 ≤ s.cfg.deadlineTicks →
    ∃ t, runSteps 61 s = .next t ∧
      t.st = .idle ∧ t.doneR = true ∧ t.result = .ok ∧ t.op = 1 ∧ t.block = b ∧ t.wdata = d ∧ t.failStep = 0 ∧
      t.marker = (afterMarker r3).isSome ∧ t.capcnt.toNat = (captured 4 r3).length ∧ t.rdata = padded (captured 4 r3) ∧
      t.cfg = s.cfg ∧ t.script = plan ∧
      t.stream.rxHeld = rest ∧
      t.stream.txHeld = s.stream.txHeld ++ frame s.cfg b d .auth1 ++ frame s.cfg b d .auth2 ++ frame s.cfg b d .auth3

/-- 42_session_commands.md R181; 70_reset_and_hazards.md R241: CONFIRM with the source's values and a stream that
answers at once: 25 cycles, OK, nothing captured whatever the response holds. -/
def Obligations.ConfirmCompletesWithoutCapture : Prop :=
  ∀ (s : State) (b : Byte) (d : Bytes16) (r rest : List Byte) (plan : List CycleInput),
    s.cfg.const = Constants.source → s.st = .idle →
    s.script = CycleInput.offer (encode (.confirm b d)) :: (List.replicate 24 CycleInput.quiet ++ plan) →
    s.stream.rxHeld = r ++ rest → r.length = 11 → 10 ≤ s.cfg.deadlineTicks →
    ∃ t, runSteps 25 s = .next t ∧
      t.st = .idle ∧ t.doneR = true ∧ t.result = .ok ∧ t.op = 2 ∧ t.block = b ∧ t.wdata = d ∧ t.failStep = 0 ∧
      t.marker = false ∧ t.capcnt = 0 ∧ t.rdata = zero16 ∧ t.cfg = s.cfg ∧ t.script = plan ∧
      t.stream = { rxHeld := rest, txHeld := s.stream.txHeld ++ frame s.cfg b d .confirm }

/-- 42_session_commands.md R182; 70_reset_and_hazards.md R240, R241: READ with the source's values and a stream that
answers at once: 62 cycles, OK, the block captured from read-2's response. -/
def Obligations.ReadCompletesWithTheBlock : Prop :=
  ∀ (s : State) (b : Byte) (d : Bytes16) (r1 r2 rest : List Byte) (plan : List CycleInput),
    s.cfg.const = Constants.source → s.st = .idle →
    s.script = CycleInput.offer (encode (.read b d)) :: (List.replicate 61 CycleInput.quiet ++ plan) →
    s.stream.rxHeld = r1 ++ r2 ++ rest → r1.length = 10 → r2.length = 25 → 24 ≤ s.cfg.deadlineTicks →
    ∃ t, runSteps 62 s = .next t ∧
      t.st = .idle ∧ t.doneR = true ∧ t.result = .ok ∧ t.op = 3 ∧ t.block = b ∧ t.wdata = d ∧ t.failStep = 0 ∧
      t.marker = (afterMarker r2).isSome ∧ t.capcnt.toNat = (captured 16 r2).length ∧
      t.rdata = padded (captured 16 r2) ∧ t.cfg = s.cfg ∧ t.script = plan ∧
      t.stream = { rxHeld := rest, txHeld := s.stream.txHeld ++ frame s.cfg b d .read1 ++ frame s.cfg b d .read2 }

/-- 42_session_commands.md R183; 70_reset_and_hazards.md R241: 30_encoding.md R92: WRITE, and
WRITE_ID as the WRITE it expands to, with the source's values and a stream that answers at once: 63 cycles, OK, both
responses counted and discarded. -/
def Obligations.WriteCompletesWithoutCapture : Prop :=
  ∀ (s : State) (i : Instr) (b : Byte) (d : Bytes16) (r1 r2 rest : List Byte) (plan : List CycleInput),
    i = .write b d ∨ (∃ v, i = .writeId b v ∧ d = encodeU32 v) →
    s.cfg.const = Constants.source → s.st = .idle →
    s.script = CycleInput.offer (encode i) :: (List.replicate 62 CycleInput.quiet ++ plan) →
    s.stream.rxHeld = r1 ++ r2 ++ rest → r1.length = 11 → r2.length = 10 → 10 ≤ s.cfg.deadlineTicks →
    ∃ t, runSteps 63 s = .next t ∧
      t.st = .idle ∧ t.doneR = true ∧ t.result = .ok ∧ t.op = 4 ∧ t.block = b ∧ t.wdata = d ∧ t.failStep = 0 ∧
      t.marker = false ∧ t.capcnt = 0 ∧ t.rdata = zero16 ∧ t.cfg = s.cfg ∧ t.script = plan ∧
      t.stream = { rxHeld := rest, txHeld := s.stream.txHeld ++ frame s.cfg b d .write1 ++ frame s.cfg b d .write2 }

/-- 42_session_commands.md R184, R172; 70_reset_and_hazards.md R241: FLUSH ends two cycles after its accept, both
buffers of the stream are empty then. That a byte which arrives in the FL cycle itself is discarded too is the model's
choice (log 7). -/
def Obligations.FlushEmptiesTheStreamInTwoCycles : Prop :=
  ∀ (s : State) (b : Byte) (d : Bytes16) (i : CycleInput) (plan : List CycleInput),
    s.st = .idle → s.script = CycleInput.offer (encode (.flush b d)) :: { i with rst := false } :: plan →
    ∃ t, runSteps 2 s = .next t ∧
      t.st = .idle ∧ t.doneR = true ∧ t.result = .ok ∧ t.op = 5 ∧ t.block = b ∧ t.wdata = d ∧ t.failStep = 0 ∧
      t.marker = false ∧ t.capcnt = 0 ∧ t.rdata = zero16 ∧ t.script = plan ∧
      t.stream = { rxHeld := [], txHeld := [] }

/-! ### Step ids -/

/-- 00_scope.md R13: the numbers of the eight steps, by which the tables and FAIL_STEP name them. -/
def Obligations.StepIdsAreNumberedZeroToSeven : Prop :=
  [StepId.auth1, .auth2, .auth3, .confirm, .read1, .read2, .write1, .write2].map (fun s => (s.num.val, s.bits)) =
    [(0, 0), (1, 1), (2, 2), (3, 3), (4, 4), (5, 5), (6, 6), (7, 7)]
end

