-- ==== Sys2Proof/Laws/State.lean ====
section
/-! SUPPORT. One lemma per field of the state and per shared update, so that no proof unfolds an update. -/

namespace Sys2Proof.Machine

/-! ### finish (42_session_commands.md R176) -/

@[simp] theorem finish_st (r : Result) (s : State) : (finish r s).st = .idle := rfl
@[simp] theorem finish_op (r : Result) (s : State) : (finish r s).op = s.op := rfl
@[simp] theorem finish_block (r : Result) (s : State) : (finish r s).block = s.block := rfl
@[simp] theorem finish_wdata (r : Result) (s : State) : (finish r s).wdata = s.wdata := rfl
@[simp] theorem finish_rdata (r : Result) (s : State) : (finish r s).rdata = if r = .timeout then zero16 else s.rdata := rfl
@[simp] theorem finish_step (r : Result) (s : State) : (finish r s).step = s.step := rfl
@[simp] theorem finish_idx (r : Result) (s : State) : (finish r s).idx = s.idx := rfl
@[simp] theorem finish_cnt (r : Result) (s : State) : (finish r s).cnt = s.cnt := rfl
@[simp] theorem finish_elapsed (r : Result) (s : State) : (finish r s).elapsed = s.elapsed := rfl
@[simp] theorem finish_prev2 (r : Result) (s : State) : (finish r s).prev2 = s.prev2 := rfl
@[simp] theorem finish_cap (r : Result) (s : State) : (finish r s).cap = s.cap := rfl
@[simp] theorem finish_capcnt (r : Result) (s : State) : (finish r s).capcnt = if r = .timeout then 0 else s.capcnt := rfl
@[simp] theorem finish_marker (r : Result) (s : State) : (finish r s).marker = if r = .timeout then false else s.marker := rfl
@[simp] theorem finish_result (r : Result) (s : State) : (finish r s).result = r := rfl
@[simp] theorem finish_failStep (r : Result) (s : State) : (finish r s).failStep = if r = .timeout then s.step.bits else s.failStep := rfl
@[simp] theorem finish_doneR (r : Result) (s : State) : (finish r s).doneR = true := rfl
@[simp] theorem finish_stream (r : Result) (s : State) : (finish r s).stream = s.stream := rfl
@[simp] theorem finish_script (r : Result) (s : State) : (finish r s).script = s.script := rfl
@[simp] theorem finish_cycle (r : Result) (s : State) : (finish r s).cycle = s.cycle := rfl
@[simp] theorem finish_cfg (r : Result) (s : State) : (finish r s).cfg = s.cfg := rfl

/-! ### latch (42_session_commands.md R168) -/

@[simp] theorem latch_st (o : BitVec 3) (b : Byte) (d : Bytes16) (s : State) : (latch o b d s).st = s.st := rfl
@[simp] theorem latch_op (o : BitVec 3) (b : Byte) (d : Bytes16) (s : State) : (latch o b d s).op = o := rfl
@[simp] theorem latch_block (o : BitVec 3) (b : Byte) (d : Bytes16) (s : State) : (latch o b d s).block = b := rfl
@[simp] theorem latch_wdata (o : BitVec 3) (b : Byte) (d : Bytes16) (s : State) : (latch o b d s).wdata = d := rfl
@[simp] theorem latch_rdata (o : BitVec 3) (b : Byte) (d : Bytes16) (s : State) : (latch o b d s).rdata = zero16 := rfl
@[simp] theorem latch_step (o : BitVec 3) (b : Byte) (d : Bytes16) (s : State) : (latch o b d s).step = s.step := rfl
@[simp] theorem latch_idx (o : BitVec 3) (b : Byte) (d : Bytes16) (s : State) : (latch o b d s).idx = s.idx := rfl
@[simp] theorem latch_cnt (o : BitVec 3) (b : Byte) (d : Bytes16) (s : State) : (latch o b d s).cnt = s.cnt := rfl
@[simp] theorem latch_elapsed (o : BitVec 3) (b : Byte) (d : Bytes16) (s : State) : (latch o b d s).elapsed = s.elapsed := rfl
@[simp] theorem latch_prev2 (o : BitVec 3) (b : Byte) (d : Bytes16) (s : State) : (latch o b d s).prev2 = s.prev2 := rfl
@[simp] theorem latch_cap (o : BitVec 3) (b : Byte) (d : Bytes16) (s : State) : (latch o b d s).cap = s.cap := rfl
@[simp] theorem latch_capcnt (o : BitVec 3) (b : Byte) (d : Bytes16) (s : State) : (latch o b d s).capcnt = 0 := rfl
@[simp] theorem latch_marker (o : BitVec 3) (b : Byte) (d : Bytes16) (s : State) : (latch o b d s).marker = false := rfl
@[simp] theorem latch_result (o : BitVec 3) (b : Byte) (d : Bytes16) (s : State) : (latch o b d s).result = s.result := rfl
@[simp] theorem latch_failStep (o : BitVec 3) (b : Byte) (d : Bytes16) (s : State) : (latch o b d s).failStep = 0 := rfl
@[simp] theorem latch_doneR (o : BitVec 3) (b : Byte) (d : Bytes16) (s : State) : (latch o b d s).doneR = false := rfl
@[simp] theorem latch_stream (o : BitVec 3) (b : Byte) (d : Bytes16) (s : State) : (latch o b d s).stream = s.stream := rfl
@[simp] theorem latch_script (o : BitVec 3) (b : Byte) (d : Bytes16) (s : State) : (latch o b d s).script = s.script := rfl
@[simp] theorem latch_cycle (o : BitVec 3) (b : Byte) (d : Bytes16) (s : State) : (latch o b d s).cycle = s.cycle := rfl
@[simp] theorem latch_cfg (o : BitVec 3) (b : Byte) (d : Bytes16) (s : State) : (latch o b d s).cfg = s.cfg := rfl

/-! ### idleCycle (42_session_commands.md R166) -/

@[simp] theorem idleCycle_st (s : State) : (idleCycle s).st = s.st := rfl
@[simp] theorem idleCycle_op (s : State) : (idleCycle s).op = s.op := rfl
@[simp] theorem idleCycle_block (s : State) : (idleCycle s).block = s.block := rfl
@[simp] theorem idleCycle_wdata (s : State) : (idleCycle s).wdata = s.wdata := rfl
@[simp] theorem idleCycle_rdata (s : State) : (idleCycle s).rdata = s.rdata := rfl
@[simp] theorem idleCycle_step (s : State) : (idleCycle s).step = s.step := rfl
@[simp] theorem idleCycle_idx (s : State) : (idleCycle s).idx = s.idx := rfl
@[simp] theorem idleCycle_cnt (s : State) : (idleCycle s).cnt = s.cnt := rfl
@[simp] theorem idleCycle_elapsed (s : State) : (idleCycle s).elapsed = s.elapsed := rfl
@[simp] theorem idleCycle_prev2 (s : State) : (idleCycle s).prev2 = s.prev2 := rfl
@[simp] theorem idleCycle_cap (s : State) : (idleCycle s).cap = s.cap := rfl
@[simp] theorem idleCycle_capcnt (s : State) : (idleCycle s).capcnt = s.capcnt := rfl
@[simp] theorem idleCycle_marker (s : State) : (idleCycle s).marker = s.marker := rfl
@[simp] theorem idleCycle_result (s : State) : (idleCycle s).result = s.result := rfl
@[simp] theorem idleCycle_failStep (s : State) : (idleCycle s).failStep = s.failStep := rfl
@[simp] theorem idleCycle_doneR (s : State) : (idleCycle s).doneR = false := rfl
@[simp] theorem idleCycle_stream (s : State) : (idleCycle s).stream = s.stream := rfl
@[simp] theorem idleCycle_script (s : State) : (idleCycle s).script = s.script := rfl
@[simp] theorem idleCycle_cycle (s : State) : (idleCycle s).cycle = s.cycle := rfl
@[simp] theorem idleCycle_cfg (s : State) : (idleCycle s).cfg = s.cfg := rfl

/-! ### resetEngine (42_session_commands.md R164) -/

@[simp] theorem resetEngine_st (s : State) : (resetEngine s).st = .idle := rfl
@[simp] theorem resetEngine_op (s : State) : (resetEngine s).op = 0 := rfl
@[simp] theorem resetEngine_block (s : State) : (resetEngine s).block = 0 := rfl
@[simp] theorem resetEngine_wdata (s : State) : (resetEngine s).wdata = zero16 := rfl
@[simp] theorem resetEngine_rdata (s : State) : (resetEngine s).rdata = zero16 := rfl
@[simp] theorem resetEngine_step (s : State) : (resetEngine s).step = .auth1 := rfl
@[simp] theorem resetEngine_idx (s : State) : (resetEngine s).idx = 0 := rfl
@[simp] theorem resetEngine_cnt (s : State) : (resetEngine s).cnt = 0 := rfl
@[simp] theorem resetEngine_elapsed (s : State) : (resetEngine s).elapsed = 0 := rfl
@[simp] theorem resetEngine_prev2 (s : State) : (resetEngine s).prev2 = false := rfl
@[simp] theorem resetEngine_cap (s : State) : (resetEngine s).cap = false := rfl
@[simp] theorem resetEngine_capcnt (s : State) : (resetEngine s).capcnt = 0 := rfl
@[simp] theorem resetEngine_marker (s : State) : (resetEngine s).marker = false := rfl
@[simp] theorem resetEngine_result (s : State) : (resetEngine s).result = .none := rfl
@[simp] theorem resetEngine_failStep (s : State) : (resetEngine s).failStep = 0 := rfl
@[simp] theorem resetEngine_doneR (s : State) : (resetEngine s).doneR = false := rfl
@[simp] theorem resetEngine_stream (s : State) : (resetEngine s).stream = s.stream := rfl
@[simp] theorem resetEngine_script (s : State) : (resetEngine s).script = s.script := rfl
@[simp] theorem resetEngine_cycle (s : State) : (resetEngine s).cycle = s.cycle := rfl
@[simp] theorem resetEngine_cfg (s : State) : (resetEngine s).cfg = s.cfg := rfl

/-! ### tick (70_reset_and_hazards.md R238) -/

@[simp] theorem tick_st (s t : State) : (tick s t).st = t.st := rfl
@[simp] theorem tick_op (s t : State) : (tick s t).op = t.op := rfl
@[simp] theorem tick_block (s t : State) : (tick s t).block = t.block := rfl
@[simp] theorem tick_wdata (s t : State) : (tick s t).wdata = t.wdata := rfl
@[simp] theorem tick_rdata (s t : State) : (tick s t).rdata = t.rdata := rfl
@[simp] theorem tick_step (s t : State) : (tick s t).step = t.step := rfl
@[simp] theorem tick_idx (s t : State) : (tick s t).idx = t.idx := rfl
@[simp] theorem tick_cnt (s t : State) : (tick s t).cnt = t.cnt := rfl
@[simp] theorem tick_elapsed (s t : State) : (tick s t).elapsed = t.elapsed := rfl
@[simp] theorem tick_prev2 (s t : State) : (tick s t).prev2 = t.prev2 := rfl
@[simp] theorem tick_cap (s t : State) : (tick s t).cap = t.cap := rfl
@[simp] theorem tick_capcnt (s t : State) : (tick s t).capcnt = t.capcnt := rfl
@[simp] theorem tick_marker (s t : State) : (tick s t).marker = t.marker := rfl
@[simp] theorem tick_result (s t : State) : (tick s t).result = t.result := rfl
@[simp] theorem tick_failStep (s t : State) : (tick s t).failStep = t.failStep := rfl
@[simp] theorem tick_doneR (s t : State) : (tick s t).doneR = t.doneR := rfl
@[simp] theorem tick_stream (s t : State) : (tick s t).stream = s.nextStream := rfl
@[simp] theorem tick_script (s t : State) : (tick s t).script = s.script.tail := rfl
@[simp] theorem tick_cycle (s t : State) : (tick s t).cycle = s.cycle + 1 := rfl
@[simp] theorem tick_cfg (s t : State) : (tick s t).cfg = t.cfg := rfl

/-! ### State.reset (70_reset_and_hazards.md R230) -/

@[simp] theorem State.reset_st : State.reset.st = .idle := rfl
@[simp] theorem State.reset_op : State.reset.op = 0 := rfl
@[simp] theorem State.reset_block : State.reset.block = 0 := rfl
@[simp] theorem State.reset_wdata : State.reset.wdata = zero16 := rfl
@[simp] theorem State.reset_rdata : State.reset.rdata = zero16 := rfl
@[simp] theorem State.reset_step : State.reset.step = .auth1 := rfl
@[simp] theorem State.reset_idx : State.reset.idx = 0 := rfl
@[simp] theorem State.reset_cnt : State.reset.cnt = 0 := rfl
@[simp] theorem State.reset_elapsed : State.reset.elapsed = 0 := rfl
@[simp] theorem State.reset_prev2 : State.reset.prev2 = false := rfl
@[simp] theorem State.reset_cap : State.reset.cap = false := rfl
@[simp] theorem State.reset_capcnt : State.reset.capcnt = 0 := rfl
@[simp] theorem State.reset_marker : State.reset.marker = false := rfl
@[simp] theorem State.reset_result : State.reset.result = .none := rfl
@[simp] theorem State.reset_failStep : State.reset.failStep = 0 := rfl
@[simp] theorem State.reset_doneR : State.reset.doneR = false := rfl
@[simp] theorem State.reset_stream : State.reset.stream = { rxHeld := [], txHeld := [] } := rfl
@[simp] theorem State.reset_script : State.reset.script = [] := rfl
@[simp] theorem State.reset_cycle : State.reset.cycle = 0 := rfl
@[simp] theorem State.reset_cfg : State.reset.cfg = { Config.machine with const := Constants.source } := rfl

/-! ### parse: the parser touches `prev2`, `cap`, CAPCNT, MARKER and RDATA alone (41_receiver_parser.md R149) -/

theorem parse_eq (m : Nat) (b : Byte) (s : State) : parse m b s =
    { s with rdata := (parse m b s).rdata, capcnt := (parse m b s).capcnt, cap := (parse m b s).cap,
             marker := (parse m b s).marker, prev2 := decide (b = s.cfg.const.mk0) } := by
  unfold parse; split_ifs <;> rfl

@[simp] theorem parse_prev2 (m : Nat) (b : Byte) (s : State) : (parse m b s).prev2 = decide (b = s.cfg.const.mk0) := by
  rw [parse_eq]
@[simp] theorem parse_st (m : Nat) (b : Byte) (s : State) : (parse m b s).st = s.st := by rw [parse_eq]
@[simp] theorem parse_op (m : Nat) (b : Byte) (s : State) : (parse m b s).op = s.op := by rw [parse_eq]
@[simp] theorem parse_block (m : Nat) (b : Byte) (s : State) : (parse m b s).block = s.block := by rw [parse_eq]
@[simp] theorem parse_wdata (m : Nat) (b : Byte) (s : State) : (parse m b s).wdata = s.wdata := by rw [parse_eq]
@[simp] theorem parse_step (m : Nat) (b : Byte) (s : State) : (parse m b s).step = s.step := by rw [parse_eq]
@[simp] theorem parse_idx (m : Nat) (b : Byte) (s : State) : (parse m b s).idx = s.idx := by rw [parse_eq]
@[simp] theorem parse_cnt (m : Nat) (b : Byte) (s : State) : (parse m b s).cnt = s.cnt := by rw [parse_eq]
@[simp] theorem parse_elapsed (m : Nat) (b : Byte) (s : State) : (parse m b s).elapsed = s.elapsed := by rw [parse_eq]
@[simp] theorem parse_result (m : Nat) (b : Byte) (s : State) : (parse m b s).result = s.result := by rw [parse_eq]
@[simp] theorem parse_failStep (m : Nat) (b : Byte) (s : State) : (parse m b s).failStep = s.failStep := by rw [parse_eq]
@[simp] theorem parse_doneR (m : Nat) (b : Byte) (s : State) : (parse m b s).doneR = s.doneR := by rw [parse_eq]
@[simp] theorem parse_stream (m : Nat) (b : Byte) (s : State) : (parse m b s).stream = s.stream := by rw [parse_eq]
@[simp] theorem parse_script (m : Nat) (b : Byte) (s : State) : (parse m b s).script = s.script := by rw [parse_eq]
@[simp] theorem parse_cycle (m : Nat) (b : Byte) (s : State) : (parse m b s).cycle = s.cycle := by rw [parse_eq]
@[simp] theorem parse_cfg (m : Nat) (b : Byte) (s : State) : (parse m b s).cfg = s.cfg := by rw [parse_eq]

end Sys2Proof.Machine
end

