-- ==== Sys2Proof/Laws/Ops.lean ====
section
/-! SUPPORT. What each shared operation can do, said once. -/

namespace Sys2Proof

/-! ### Tables -/

theorem decodeOp_ofBits (op : BitVec 3) (b : Byte) (d : Bytes16) :
    (op = 0 ∧ decodeOp op b d = .reserved0 b d) ∨ (op = 1 ∧ decodeOp op b d = .auth b d) ∨
    (op = 2 ∧ decodeOp op b d = .confirm b d) ∨ (op = 3 ∧ decodeOp op b d = .read b d) ∨
    (op = 4 ∧ decodeOp op b d = .write b d) ∨ (op = 5 ∧ decodeOp op b d = .flush b d) ∨
    (op = 6 ∧ decodeOp op b d = .reserved6 b d) ∨ (op = 7 ∧ decodeOp op b d = .reserved7 b d) := by
  obtain ⟨⟨n, hn⟩⟩ := op
  interval_cases n <;> simp [decodeOp]

/-- The source's values are a legal configuration (00_scope.md R6, R8). -/
theorem Constants.source_legal : Constants.source.legal := by unfold Constants.legal; decide

theorem Config.expected_pos {c : Config} (h : c.const.legal) (s : StepId) : 0 < c.expected s := (h.1 s.num).1

theorem Config.expected_lt {c : Config} (h : c.const.legal) (s : StepId) : c.expected s < 32 := (h.1 s.num).2

namespace Machine

theorem frameLen_pos (s : StepId) : 0 < frameLen s := by cases s <;> decide
theorem frameLen_le (s : StepId) : frameLen s ≤ 25 := by cases s <;> decide

/-! ### Frame Codec -/

@[simp] theorem checksum_nil (seed : Byte) : checksum seed [] = seed := rfl

@[simp] theorem checksum_cons (seed b : Byte) (l : List Byte) :
    checksum seed (b :: l) = checksum (seed ^^^ b) l := rfl

theorem checksum_append (seed : Byte) (l m : List Byte) :
    checksum seed (l ++ m) = checksum (checksum seed l) m := List.foldl_append

/-- The six FILL bytes cancel (40_frame_codec.md R101). -/
@[simp] theorem checksum_fill6 (c : Config) (seed : Byte) : checksum seed (fill6 c) = seed := by
  simp [fill6, List.replicate]

/-- Every frame has its table length (40_frame_codec.md R111). -/
@[simp] theorem frame_length (c : Config) (b : Byte) (d : Bytes16) (s : StepId) :
    (frame c b d s).length = frameLen s := by
  cases s <;> simp [frame, header, payload, check, frameLen, fill6]

theorem frameByte_eq_getElem (c : Config) (b : Byte) (d : Bytes16) (s : StepId) (i : BitVec 5)
    (h : i.toNat < frameLen s) : frameByte c b d s i = (frame c b d s)[i.toNat]'(by simpa using h) := by
  simp [frameByte, h]

/-! ### Surroundings -/

theorem State.input_script (s : State) (i : CycleInput) (rest : List CycleInput) (h : s.script = i :: rest) :
    s.input = i := by simp [State.input, h]

/-! ### Cycle operations -/

/-- What an accept can do (42_session_commands.md R168). -/
theorem accept_cases (k : CommandRow) (b : Byte) (d : Bytes16) (s : State) :
    (∃ first, k.start = .send first ∧
      accept k b d s = { latch k.op b d s with result := .none, step := first, idx := 0, st := .tx }) ∨
    (k.start = .flush ∧ accept k b d s = { latch k.op b d s with result := .none, st := .fl }) ∨
    (k.start = .illegal ∧ accept k b d s = finish .illegal (latch k.op b d s)) := by
  unfold accept
  cases k.start <;> simp

/-- What a TX cycle can do (42_session_commands.md R169, R170). -/
theorem txCycle_cases (s : State) :
    (s.idx.toNat + 1 = frameLen s.step ∧
      txCycle s = { s with st := .rx, cnt := 0, elapsed := 0, prev2 := false, cap := false, doneR := false }) ∨
    (s.idx.toNat + 1 ≠ frameLen s.step ∧ txCycle s = { s with idx := s.idx + 1, doneR := false }) := by
  unfold txCycle
  split <;> simp_all

/-- What the parser can do (41_receiver_parser.md R142 to R147). -/
theorem parse_cases (m : Nat) (b : Byte) (s : State) :
    (s.cap = true ∧ s.capcnt.toNat < m ∧ parse m b s =
      { s with rdata := s.rdata.setIfInBounds s.capcnt.toNat b, capcnt := s.capcnt + 1, prev2 := decide (b = s.cfg.const.mk0) }) ∨
    (s.cap = true ∧ m ≤ s.capcnt.toNat ∧ parse m b s = { s with prev2 := decide (b = s.cfg.const.mk0) }) ∨
    (s.cap = false ∧ armed s.step = true ∧ s.prev2 = true ∧ b = s.cfg.const.mk1 ∧
      parse m b s = { s with cap := true, marker := true, prev2 := decide (b = s.cfg.const.mk0) }) ∨
    (s.cap = false ∧ (armed s.step && s.prev2 && decide (b = s.cfg.const.mk1)) = false ∧
      parse m b s = { s with prev2 := decide (b = s.cfg.const.mk0) }) := by
  unfold parse
  split
  · split
    · exact .inl ⟨‹_›, ‹_›, rfl⟩
    · exact .inr (.inl ⟨‹_›, by omega, rfl⟩)
  · split
    · rename_i h1 h2
      simp only [Bool.and_eq_true, decide_eq_true_eq] at h2
      exact .inr (.inr (.inl ⟨by simpa using h1, h2.1.1, h2.1.2, h2.2, rfl⟩))
    · rename_i h1 h2
      exact .inr (.inr (.inr ⟨by simpa using h1, by simpa using h2, rfl⟩))

/-- The state after one accepted byte, before the step completes (41_receiver_parser.md R138). -/
def counted (k : CommandRow) (b : Byte) (s : State) : State :=
  { parse (s.cfg.capMax k.capture) b s with elapsed := s.elapsed + 1, cnt := s.cnt + 1, doneR := false }

/-- All effects of one accepted byte in one place (41_receiver_parser.md R136, R137, R143 to R147). -/
theorem counted_eq (k : CommandRow) (b : Byte) (s : State) : counted k b s = afterByte (s.cfg.capMax k.capture) b s := by
  unfold counted afterByte
  rcases parse_cases (s.cfg.capMax k.capture) b s with ⟨h1, h2, h3⟩ | ⟨h1, h2, h3⟩ | ⟨h1, h2, h3, h4, h5⟩ | ⟨h1, h2, h3⟩
  · simp [h3, h1, h2]
  · simp [h3, h1, Nat.not_lt.mpr h2]
  · rw [h5]; simp [h1, h2, h3, h4]
  · rw [h3]; simp only [h1, Bool.not_false, Bool.true_and, h2, Bool.or_false]; simp

/-- What an RX cycle can do when it answers a next state (41_receiver_parser.md R134 to R139, 42_session_commands.md
R173, R174). -/
theorem rxCycle_next {k : CommandRow} {s t : State} (h : rxCycle k s = .next t) :
    (s.cfg.deadlineTicks < s.elapsed ∧ t = finish .timeout s) ∨
    (s.elapsed ≤ s.cfg.deadlineTicks ∧ s.rxOffer = none ∧ t = { s with elapsed := s.elapsed + 1, doneR := false }) ∨
    (∃ b, s.elapsed ≤ s.cfg.deadlineTicks ∧ s.rxOffer = some b ∧ s.cnt.toNat + 1 ≠ s.cfg.expected s.step ∧
      t = counted k b s) ∨
    (∃ b, s.elapsed ≤ s.cfg.deadlineTicks ∧ s.rxOffer = some b ∧ s.cnt.toNat + 1 = s.cfg.expected s.step ∧
      k.last = some s.step ∧ t = finish .ok (counted k b s)) ∨
    (∃ b last, s.elapsed ≤ s.cfg.deadlineTicks ∧ s.rxOffer = some b ∧ s.cnt.toNat + 1 = s.cfg.expected s.step ∧
      k.last = some last ∧ s.step ≠ last ∧
      t = { counted k b s with step := s.step.succ, idx := 0, st := .tx }) := by
  unfold rxCycle at h
  split at h
  · cases h; exact .inl ⟨‹_›, rfl⟩
  · have hle : s.elapsed ≤ s.cfg.deadlineTicks := by omega
    split at h
    · cases h; exact .inr (.inl ⟨hle, ‹_›, rfl⟩)
    · rename_i b hb
      unfold takeByte at h
      simp only at h
      split at h
      · rename_i hc
        unfold stepComplete at h
        split at h
        · cases h
        · rename_i last hl
          split at h
          · rename_i hs
            cases h
            refine .inr (.inr (.inr (.inl ⟨b, hle, hb, hc, ?_, rfl⟩)))
            rw [hl, ← hs]; simp
          · rename_i hs
            cases h
            exact .inr (.inr (.inr (.inr ⟨b, last, hle, hb, hc, hl, by simpa using hs, by simp [counted]⟩)))
      · cases h; exact .inr (.inr (.inl ⟨b, hle, hb, ‹_›, rfl⟩))

/-- The constants of the command an instruction is (42_session_commands.md R161). -/
def rowOf : Instr → CommandRow
  | .reserved0 _ _ => reservedRow 0
  | .auth _ _ => authRow
  | .confirm _ _ => confirmRow
  | .read _ _ => readRow
  | .write _ _ => writeRow
  | .flush _ _ => flushRow
  | .reserved6 _ _ => reservedRow 6
  | .reserved7 _ _ => reservedRow 7
  | .writeId _ _ => writeRow

/-- Every instruction is one cycle of a command with its constants and its operands. -/
theorem exec_eq (i : Instr) (s : State) : exec i s = commandCycle (rowOf i) i.block i.data s := by
  cases i <;> rfl

theorem rowOf_last (i : Instr) : (rowOf i).last = lastOf i.opcode := by cases i <;> rfl
theorem rowOf_capMax (c : Config) (i : Instr) : c.capMax (rowOf i).capture = capMaxOf c i.opcode := by cases i <;> rfl

/-- An RX cycle of an instruction in the window, when a byte is offered (41_receiver_parser.md R137, R138). -/
theorem exec_rx_byte {i : Instr} {s : State} {b : Byte} (h : s.st = .rx) (hd : s.elapsed ≤ s.cfg.deadlineTicks)
    (ho : s.rxOffer = some b) :
    exec i s =
      if s.cnt.toNat + 1 = s.cfg.expected s.step then stepComplete (rowOf i) (afterByte (capMaxOf s.cfg i.opcode) b s)
      else .next (afterByte (capMaxOf s.cfg i.opcode) b s) := by
  rw [exec_eq, commandCycle, h, ← rowOf_capMax]
  simp [rxCycle, Nat.not_lt.mpr hd, ho, takeByte, ← counted_eq, counted]

@[simp] theorem rowOf_op (i : Instr) : (rowOf i).op = i.opcode := by cases i <;> rfl

/-- The tables by code are the constants of the decoded instruction (42_session_commands.md R161). -/
theorem rowOf_decodeOp (op : BitVec 3) (b : Byte) (d : Bytes16) :
    (rowOf (decodeOp op b d)).op = op ∧ (rowOf (decodeOp op b d)).last = lastOf op ∧
    (∀ c : Config, c.capMax (rowOf (decodeOp op b d)).capture = capMaxOf c op) ∧
    (rowOf (decodeOp op b d)).start =
      (match firstOf op with
       | some f => .send f
       | none => if op = 5 then .flush else .illegal) := by
  rcases decodeOp_ofBits op b d with h | h | h | h | h | h | h | h <;> rw [h.2] <;> obtain ⟨rfl, -⟩ := h <;>
    exact ⟨rfl, rfl, fun _ => rfl, rfl⟩

@[simp] theorem decodeOp_block (op : BitVec 3) (b : Byte) (d : Bytes16) : (decodeOp op b d).block = b := by
  rcases decodeOp_ofBits op b d with h | h | h | h | h | h | h | h <;> rw [h.2] <;> rfl

@[simp] theorem decodeOp_data (op : BitVec 3) (b : Byte) (d : Bytes16) : (decodeOp op b d).data = d := by
  rcases decodeOp_ofBits op b d with h | h | h | h | h | h | h | h <;> rw [h.2] <;> rfl

/-- What one cycle of a command can do when it answers a next state (42_session_commands.md R163). -/
theorem commandCycle_next {k : CommandRow} {b : Byte} {d : Bytes16} {s t : State}
    (h : commandCycle k b d s = .next t) :
    (s.st = .idle ∧ t = accept k b d s) ∨ (s.st = .tx ∧ t = txCycle s) ∨ (s.st = .rx ∧ rxCycle k s = .next t) ∨
    (s.st = .fl ∧ t = finish .ok s) := by
  unfold commandCycle at h
  split at h <;> simp_all

/-- What one step can do when it answers a next state (42_session_commands.md R163). -/
theorem step_next {s t : State} (h : step s = .next t) :
    ∃ u, t = tick s u ∧
      ((s.input.rst = true ∧ u = resetEngine s) ∨
       (s.input.rst = false ∧ s.st = .idle ∧ s.cmdOffer = none ∧ u = idleCycle s) ∨
       (∃ c, s.input.rst = false ∧ s.st = .idle ∧ s.cmdOffer = some c ∧
         u = accept (rowOf (decode c)) c.block c.data s) ∨
       (s.input.rst = false ∧ s.st = .tx ∧ u = txCycle s) ∨
       (s.input.rst = false ∧ s.st = .rx ∧ rxCycle (rowOf s.running) s = .next u) ∨
       (s.input.rst = false ∧ s.st = .fl ∧ u = finish .ok s)) := by
  unfold step engineCycle State.current at h
  split at h
  case h_1 u hu =>
    refine ⟨u, by simpa using h.symm, ?_⟩
    split at hu
    · rename_i hr; cases hu; exact .inl ⟨hr, rfl⟩
    · rename_i hr
      have hr : s.input.rst = false := by simpa using hr
      rcases hst : s.st <;> simp only [hst] at hu
      · cases hc : s.cmdOffer with
        | none => simp only [hc, Option.map_none] at hu; cases hu; exact .inr (.inl ⟨hr, rfl, rfl, rfl⟩)
        | some c =>
          simp only [hc, Option.map_some, exec_eq, commandCycle, hst] at hu
          cases hu
          refine .inr (.inr (.inl ⟨c, hr, rfl, rfl, ?_⟩))
          simp [decode]
      · simp only [exec_eq, commandCycle, hst] at hu
        cases hu; exact .inr (.inr (.inr (.inl ⟨hr, rfl, rfl⟩)))
      · simp only [exec_eq, commandCycle, hst] at hu
        exact .inr (.inr (.inr (.inr (.inl ⟨hr, rfl, hu⟩))))
      · simp only [exec_eq, commandCycle, hst] at hu
        cases hu; exact .inr (.inr (.inr (.inr (.inr ⟨hr, rfl, rfl⟩))))
  · cases h
  · cases h

end Machine

end Sys2Proof
end

