-- ==== Sys2Proof/Laws/PerInstr.lean ====
section
/-! SUPPORT. What holds of every instruction as syntax, one lemma per constructor: the fields of its command. -/

namespace Sys2Proof

/-- The low part of a concatenation. -/
theorem extract_low {m n : Nat} (b : BitVec m) (o : BitVec n) : (b ++ o).extractLsb' 0 n = o := by
  apply BitVec.eq_of_getLsbD_eq
  intro j hj
  simp [BitVec.getLsbD_append, hj]

/-- The high part of a concatenation. -/
theorem extract_high {m n : Nat} (b : BitVec m) (o : BitVec n) : (b ++ o).extractLsb' n m = b := by
  apply BitVec.eq_of_getLsbD_eq
  intro j hj
  simp [BitVec.getLsbD_append, hj]

namespace Laws.EncodedFields

/-- The ports carry an instruction's fields: `cmd_op`, `cmd_block` and `cmd_data` of its command are its operation code,
its block and its data (30_encoding.md R81, R82, R92). -/
def Statement (i : Instr) : Prop :=
  (encode i).op = i.opcode ∧ (encode i).block = i.block ∧ (encode i).data = i.data

theorem reserved0 (b : Byte) (d : Bytes16) : Statement (.reserved0 b d) := ⟨extract_low b 0, extract_high b 0, rfl⟩
theorem auth (b : Byte) (d : Bytes16) : Statement (.auth b d) := ⟨extract_low b 1, extract_high b 1, rfl⟩
theorem confirm (b : Byte) (d : Bytes16) : Statement (.confirm b d) := ⟨extract_low b 2, extract_high b 2, rfl⟩
theorem read (b : Byte) (d : Bytes16) : Statement (.read b d) := ⟨extract_low b 3, extract_high b 3, rfl⟩
theorem write (b : Byte) (d : Bytes16) : Statement (.write b d) := ⟨extract_low b 4, extract_high b 4, rfl⟩
theorem flush (b : Byte) (d : Bytes16) : Statement (.flush b d) := ⟨extract_low b 5, extract_high b 5, rfl⟩
theorem reserved6 (b : Byte) (d : Bytes16) : Statement (.reserved6 b d) := ⟨extract_low b 6, extract_high b 6, rfl⟩
theorem reserved7 (b : Byte) (d : Bytes16) : Statement (.reserved7 b d) := ⟨extract_low b 7, extract_high b 7, rfl⟩
theorem writeId (b : Byte) (v : BitVec 32) : Statement (.writeId b v) := ⟨extract_low b 4, extract_high b 4, rfl⟩

end Laws.EncodedFields

end Sys2Proof
end

