-- ==== Sys2Proof/Tests/Slice0.lean ====
section
/-! SUPPORT. Tests, with expected results from the spec's vectors (95_test_vectors.md) or computed by hand from its rules,
and for every statement with hypotheses a concrete state and operands that meet them. -/

namespace Sys2Proof.Tests

open Sys2Proof.Machine

/-! ### Well-formedness -/

/-- The one check refuses an ill-formed term: the pseudo-command is no command of the operation map
(30_encoding.md R92). -/
theorem test_wellFormed_refuses_writeId : (Instr.writeId 9 42).wellFormed = false := by decide

theorem test_wellFormed_accepts_read : (Instr.read 5 zero16).wellFormed = true := by decide

/-! ### Decoding: words written out bit by bit from `cw = {block[7:0], op[2:0]}` (30_encoding.md R81, R82) -/

theorem test_decode_reserved0 : decode { cw := 0b00000001000#11, data := zero16 } = .reserved0 1 zero16 := by decide
theorem test_decode_auth : decode { cw := 0b00000000001#11, data := zero16 } = .auth 0 zero16 := by decide
theorem test_decode_confirm :
    decode { cw := 0b10000000010#11, data := Vector.replicate 16 9 } = .confirm 128 (Vector.replicate 16 9) := by decide
theorem test_decode_read : decode { cw := 0b00000101011#11, data := zero16 } = .read 5 zero16 := by decide
theorem test_decode_write :
    decode { cw := 0b00001001100#11, data := encodeU32 42 } = .write 9 (encodeU32 42) := by decide
theorem test_decode_flush : decode { cw := 0b11111111101#11, data := zero16 } = .flush 255 zero16 := by decide
theorem test_decode_reserved6 : decode { cw := 0b00000000110#11, data := zero16 } = .reserved6 0 zero16 := by decide
theorem test_decode_reserved7 : decode { cw := 0b01000000111#11, data := zero16 } = .reserved7 64 zero16 := by decide

/-- WRITE_ID 9, 42 has the command word 0x04C and the data 00×12 00 00 00 2A (95_test_vectors.md, program P3). -/
theorem test_encode_writeId :
    encode (.writeId 9 42) =
      { cw := 0x04C, data := #v[0, 0, 0, 0, 0, 0, 0, 0, 0, 0, 0, 0, 0, 0, 0, 0x2A] } := by decide

/-- The table's numbering: a row gives the 11 bits of the command word, and the data operand's bits are 0. -/
theorem test_decode_tableWord : decodeTableWord 16 0x02B = some (.read 5 zero16) := by decide

/-- A row with a bit above the 139 bits of a command is no command. -/
theorem test_decode_tooWide :
    decodeFlat (2 ^ 139) = .error .tooWide ∧ decodeTableWord 144 (2 ^ 139 + 1) = none := by decide +kernel

/-- Every bit of the largest command is kept. -/
theorem test_flat_allOnes :
    decodeFlat (2 ^ 139 - 1) = .ok (.reserved7 255 (Vector.replicate 16 255)) := by decide +kernel

/-! ### Lines of text (30_encoding.md R91, R92; 95_test_vectors.md section 3) -/

theorem test_line_confirm :
    parseLine "  CONFIRM 1, 2,3,0x04 ; password".toList =
      .ok (some (.confirm 0 #v[1, 2, 3, 4, 0, 0, 0, 0, 0, 0, 0, 0, 0, 0, 0, 0])) := by decide +kernel
theorem test_line_read : parseLine "READ 5".toList = .ok (some (.read 5 zero16)) := by decide +kernel
theorem test_line_op : parseLine ".op 7".toList = .ok (some (.reserved7 0 zero16)) := by decide +kernel
theorem test_line_writeId : parseLine "WRITE_ID 9, 0x2A".toList = .ok (some (.writeId 9 42)) := by decide +kernel
theorem test_line_refused :
    parseLine "; only a comment".toList = .ok none ∧
    parseLine "SEND 1".toList = .error .unknownMnemonic ∧
    parseLine "READ 256".toList = .error .badOperands := by decide +kernel

/-! ### Frames (95_test_vectors.md sections 2.1, 2.2) -/

/-- A configuration in which the open bytes differ from each other, and `DEADLINE_TICKS` is 24. -/
def cfg24 : Config where
  const := Constants.source
  len := #v[0x40, 0x41, 0x42, 0x43, 0x44, 0x45, 0x46, 0x47]
  group := #v[0x50, 0x51, 0x52, 0x53, 0x54, 0x55, 0x56, 0x57]
  code := #v[0x60, 0x61, 0x62, 0x63, 0x64, 0x65, 0x66, 0x67]
  w1Check := 0x77
  clkHzPred := 23

theorem test_frame_confirm :
    frame cfg24 0 #v[1, 2, 3, 4, 0xFF, 0xFF, 0xFF, 0xFF, 0xFF, 0xFF, 0xFF, 0xFF, 0xFF, 0xFF, 0xFF, 0xFF] .confirm =
      [0xAA, 0xBB, 0x43, 0, 0, 0, 0x53, 0x63, 1, 2, 3, 4, 5] := by decide
theorem test_frame_read1 :
    frame cfg24 5 zero16 .read1 =
      [0xAA, 0xBB, 0x44, 0, 0, 0, 0x54, 0x64, 5, 0xFF, 0xFF, 0xFF, 0xFF, 0xFF, 0xFF, 0x60] := by decide
theorem test_frame_read2 :
    frame cfg24 0xFF zero16 .read2 = [0xAA, 0xBB, 0x45, 0, 0, 0, 0x55, 0x65, 0xFF, 0xF5] := by decide
theorem test_frame_write1 :
    frame cfg24 9 zero16 .write1 =
      [0xAA, 0xBB, 0x46, 0, 0, 0, 0x56, 0x66, 4, 0xFF, 0xFF, 0xFF, 0xFF, 0xFF, 0xFF, 0x77] := by decide
theorem test_frame_write2 :
    (frame cfg24 9 (encodeU32 42) .write2).drop 20 = [0, 0, 0, 0x2A, 0x25] := by decide
theorem test_check_write2 : checksum 0x0F (encodeU32 0xDEADBEEF).toList = 0x2D := by decide

/-! ### Single steps -/

/-- A state with nothing coming in: the reset state with the configuration above and the plan given. -/
def at0 (plan : List CycleInput) : State := { State.reset with cfg := cfg24, script := plan }

/-- A transmitting READ. -/
def sending (i : BitVec 5) (plan : List CycleInput) : State :=
  { at0 plan with st := .tx, op := 3, block := 5, step := .read1, idx := i }

/-- A command that is receiving. -/
def receiving (o : BitVec 3) (stp : StepId) (n : BitVec 5) (e : Nat) (held : List Byte) (plan : List CycleInput) :
    State :=
  { at0 plan with
    st := .rx, op := o, block := 5, step := stp, idx := 9, cnt := n, elapsed := e
    stream := { rxHeld := held, txHeld := [] } }

/-- READ past its marker with two bytes captured. -/
def capturing (n : BitVec 5) (e : Nat) (held : List Byte) (plan : List CycleInput) : State :=
  { receiving 3 .read2 n e held plan with
    cap := true, marker := true, capcnt := 2
    rdata := #v[1, 2, 0, 0, 0, 0, 0, 0, 0, 0, 0, 0, 0, 0, 0, 0] }

/-- FLUSH in its FL cycle with bytes in both buffers. -/
def flushing (plan : List CycleInput) : State :=
  { at0 plan with st := .fl, op := 5, stream := { rxHeld := [1, 2], txHeld := [3] } }

/-- A cycle under reset in which a byte comes in. -/
def resetInput : CycleInput := { rst := true, cmd := none, arrive := [7], drain := 0 }

/-- What a step answers, seen through a function. -/
def after {α : Type} (f : State → α) (s : State) : Option α :=
  match step s with
  | .next t => some (f t)
  | .fault _ => none
  | .refused _ => none

/-- Command words placed for the very next step run there: READ enters TX in its first step. -/
theorem test_fetch_read :
    after (fun t => (t.st, t.op, t.block, t.step)) (State.reset.withFetchWord 16 0x02B) = some (.tx, 3, 5, .read1) := by
  decide

/-- K1: `.op 7` ends ILLEGAL with status 0x7006 and `done` (95_test_vectors.md section 2.5). -/
theorem test_fetch_reserved7 :
    after (fun t => (t.st, t.status, t.doneR)) (State.reset.withFetchWord 16 0x007) = some (.idle, 0x7006, true) := by
  decide

/-- K3: `.op 6` ends ILLEGAL with status 0x6006. -/
theorem test_fetch_reserved6 :
    after (fun t => (t.status, t.block)) (State.reset.withFetchWord 16 0x7FE) = some (0x6006, 0xFF) := by decide

/-- P4: `.op 0` ends ILLEGAL with status 0x0006. -/
theorem test_fetch_reserved0 :
    after (fun t => (t.status, t.doneR)) (State.reset.withFetchWord 16 0x000) = some (0x0006, true) := by decide

/-- K4: after the accept of FLUSH, `flush` is 1 and BUSY is 1. -/
theorem test_fetch_flush :
    after (fun t => (t.outputs.flush, t.status)) (State.reset.withFetchWord 16 0x005) = some (true, 0x5001) := by decide

/-- K4: the FL cycle ends FLUSH with status 0x5002 and empties both buffers. -/
theorem test_flush_ends :
    after (fun t => (t.status, t.doneR, t.stream)) (flushing [CycleInput.quiet]) =
      some (0x5002, true, { rxHeld := [], txHeld := [] }) := by decide

/-- A byte offered at `elapsed = D` completes CONFIRM with status 0x2002 (program P6a). -/
theorem test_confirm_last_cycle :
    after (fun t => (t.status, t.doneR, t.stream.rxHeld))
      (receiving 2 .confirm 10 24 [0x11, 0x22] [CycleInput.quiet]) = some (0x2002, true, [0x22]) := by decide

/-- The same byte one cycle later is not taken and the status is 0x201C (program P6b). -/
theorem test_confirm_timeout :
    after (fun t => (t.status, t.doneR, t.stream.rxHeld))
      (receiving 2 .confirm 10 25 [0x11, 0x22] [CycleInput.quiet]) = some (0x201C, true, [0x11, 0x22]) := by decide

/-- The byte after the marker goes to the place CAPCNT (41_receiver_parser.md R145). -/
theorem test_read_captures :
    after (fun t => (t.capcnt, t.rdata[2], t.rdata[1])) (capturing 12 12 [0xAB] [CycleInput.quiet]) =
      some (3, 0xAB, 2) := by decide

/-- The last byte of auth-1 starts auth-2 (42_session_commands.md R173). -/
theorem test_auth_next_step :
    after (fun t => (t.st, t.step, t.idx, t.doneR)) (receiving 1 .auth1 9 9 [0] [CycleInput.quiet]) =
      some (.tx, .auth2, 0, false) := by decide

/-- A step of WRITE takes no marker: write-1 is not armed (41_receiver_parser.md R142). -/
theorem test_write_not_armed :
    after (fun t => (t.marker, t.cap, t.prev2))
      { receiving 4 .write1 3 3 [0] [CycleInput.quiet] with prev2 := true } = some (false, false, false) := by decide

/-- WRITE_ID latches the 16 bytes it expands to (30_encoding.md R92). -/
theorem test_writeId_accept :
    exec (.writeId 9 0x01020304) (at0 []) = exec (.write 9 #v[0, 0, 0, 0, 0, 0, 0, 0, 0, 0, 0, 0, 1, 2, 3, 4]) (at0 []) :=
  rfl

/-- V9: a second marker is data, and a third byte beyond CAPMAX is dropped (95_test_vectors.md section 2.3). -/
theorem test_captured_v9 :
    captured 4 [2, 0, 2, 0, 0xD1, 0xD2, 0x11] = [2, 0, 0xD1, 0xD2] ∧ afterMarker [0x11, 0, 2, 0x11] = none ∧
    captured 4 [0x11, 2, 2, 0, 0xC1] = [0xC1] ∧ afterMarker [0x11, 2, 0] = some [] := by decide

/-! ### Hypotheses that can be met

One theorem for each statement with hypotheses: concrete states and operands that meet them together, clause by clause. -/

theorem test_meets_reset :
    ∃ s t : State, s.input.rst = true ∧ step s = .next t ∧ s.st ≠ .fl ∧ s.rxQueue = [1, 7] :=
  ⟨receiving 2 .confirm 3 4 [1] [resetInput], _, by decide, rfl, by decide, by decide⟩

theorem test_meets_flat : 2 ^ 139 ≤ 2 ^ 139 ∧ ¬ 2 ^ 139 ≤ 2 ^ 139 - 1 := by decide +kernel

theorem test_meets_checksum :
    [1, 2, 3].Perm [3, 2, (1 : Byte)] ∧ ([5, 7, 5] : List Byte).count 5 % 2 = 0 ∧
    checksum 1 [5, 7, 5] = checksum 1 [7] := by decide

theorem test_meets_frameByte :
    (15#5).toNat < frameLen .read1 ∧ (8#5).toNat = 8 ∧ (14#5).toNat < 8 + (payload cfg24 5 zero16 .read1).length ∧
    (15#5).toNat = 8 + (payload cfg24 5 zero16 .read1).length ∧ (7#5).toNat < frameLen .auth1 ∧
    (24#5).toNat = 8 + (payload cfg24 5 zero16 .write2).length := by decide

theorem test_meets_source : cfg24.const = Constants.source ∧ (15#5).toNat < frameLen .read1 := by decide

theorem test_meets_framesIgnore :
    ∃ d d' : Bytes16, d ≠ d' ∧ d[0] = d'[0] ∧ d[1] = d'[1] ∧ d[2] = d'[2] ∧ d[3] = d'[3] :=
  ⟨zero16, #v[0, 0, 0, 0, 1, 0, 0, 0, 0, 0, 0, 0, 0, 0, 0, 0], by decide⟩

theorem test_meets_accept : (at0 []).st = .idle ∧ (flushing []).st = .fl := by decide

theorem test_meets_operandsRead :
    (sending 0 []).st ≠ .idle ∧ (Instr.read 5 zero16).opcode = (Instr.read 6 zero16).opcode ∧
    Instr.read 5 zero16 ≠ .read 6 zero16 := by decide

theorem test_meets_transmit :
    (sending 15 []).st = .tx ∧ (sending 15 []).idx.toNat = frameLen .read1 - 1 ∧
    (sending 14 []).idx.toNat ≠ frameLen .read1 - 1 ∧ (sending 15 []).idx.toNat < frameLen (sending 15 []).step := by
  decide

theorem test_meets_timeout :
    ∃ s : State, s.st = .rx ∧ s.cfg.deadlineTicks < s.elapsed ∧ s.elapsed = s.cfg.deadlineTicks + 1 :=
  ⟨receiving 3 .read2 24 25 [1] [CycleInput.quiet], by decide⟩

theorem test_meets_windowNoByte :
    ∃ s : State, s.st = .rx ∧ s.elapsed ≤ s.cfg.deadlineTicks ∧ s.elapsed = s.cfg.deadlineTicks ∧ s.rxOffer = none :=
  ⟨receiving 3 .read2 24 24 [] [CycleInput.quiet], by decide⟩

theorem test_meets_windowByte :
    ∃ s : State, s.st = .rx ∧ s.elapsed ≤ s.cfg.deadlineTicks ∧ s.rxOffer = some 2 ∧
      s.cnt.toNat + 1 ≠ s.cfg.expected s.step ∧ s.cnt.toNat + 2 = s.cfg.expected s.step :=
  ⟨receiving 3 .read2 23 24 [2] [CycleInput.quiet], by decide⟩

theorem test_meets_completedStep :
    ∃ s : State, s.st = .rx ∧ s.elapsed ≤ s.cfg.deadlineTicks ∧ s.rxOffer = some 2 ∧
      s.cnt.toNat + 1 = s.cfg.expected s.step ∧ lastOf (Instr.write 9 zero16).opcode = some .write2 ∧ s.step ≠ .write2 :=
  ⟨receiving 4 .write1 10 24 [2] [CycleInput.quiet], by decide⟩

theorem test_meets_lastByte :
    ∀ p ∈ [(1#3, StepId.auth3, 13#5), (2, .confirm, 10), (3, .read2, 24), (4, .write2, 9)],
      ∃ s : State, s.st = .rx ∧ s.elapsed ≤ s.cfg.deadlineTicks ∧ s.rxOffer = some 7 ∧
        s.cnt.toNat + 1 = s.cfg.expected s.step ∧ s.step = p.2.1 := by
  intro p h
  refine ⟨receiving p.1 p.2.1 p.2.2 24 [7] [CycleInput.quiet], ?_⟩
  revert p; decide

theorem test_meets_noLastStep :
    ∃ s : State, s.st = .rx ∧ s.elapsed ≤ s.cfg.deadlineTicks ∧ s.rxOffer = some 7 ∧
      s.cnt.toNat + 1 = s.cfg.expected s.step ∧ lastOf (Instr.flush 0 zero16).opcode = none :=
  ⟨receiving 5 .auth1 9 0 [7] [CycleInput.quiet], by decide⟩

theorem test_meets_parser :
    ∃ s : State, s.cfg.const.mk0 = 2 ∧ s.cfg.const.mk1 = 0 ∧ armed s.step = true ∧ s.cap = false ∧ s.prev2 = false ∧ s.marker = false ∧ s.capcnt = 0 ∧
      s.rdata = zero16 :=
  ⟨receiving 1 .auth3 0 0 [] [], by decide⟩

theorem test_meets_stepRuns :
    (∃ (s t : State) (c : Command), s.input.rst = false ∧ s.st = .idle ∧ s.cmdOffer = some c ∧
      exec (decode c) s = .next t) ∧
    (∃ s t : State, s.input.rst = false ∧ s.st ≠ .idle ∧ exec (decodeOp s.op s.block s.wdata) s = .next t) ∧
    (∃ (s : State) (f : Fault), s.input.rst = false ∧ s.st ≠ .idle ∧
      exec (decodeOp s.op s.block s.wdata) s = .fault f) :=
  ⟨⟨at0 [CycleInput.offer { cw := 0x02B, data := zero16 }], _, _, by decide, by decide, rfl, rfl⟩,
   ⟨sending 3 [CycleInput.quiet], _, by decide, by decide, rfl⟩,
   ⟨receiving 5 .auth1 9 0 [7] [CycleInput.quiet], .noLastStep 5, by decide, by decide, rfl⟩⟩

theorem test_meets_idleCycle :
    ∃ s : State, s.input.rst = false ∧ s.st = .idle ∧ s.cmdOffer = none :=
  ⟨at0 [CycleInput.quiet], by decide⟩

/-- A state in each clause of the statement about the stream, with a step that answers. -/
theorem test_meets_stream :
    (∃ s t : State, step s = .next t ∧ s.st = .fl) ∧
    (∃ s t : State, step s = .next t ∧ s.st = .rx ∧ s.input.rst = false ∧ s.elapsed = s.cfg.deadlineTicks) ∧
    (∃ s t : State, step s = .next t ∧ s.st = .rx ∧ s.cfg.deadlineTicks + 1 = s.elapsed) ∧
    (∃ s t : State, step s = .next t ∧ s.st = .rx ∧ s.input.rst = true) ∧
    (∃ s t : State, step s = .next t ∧ s.st = .tx ∧ s.idx.toNat + 1 = frameLen s.step) :=
  ⟨⟨flushing [CycleInput.quiet], _, rfl, by decide⟩,
   ⟨receiving 3 .read2 3 24 [7] [CycleInput.quiet], _, rfl, by decide⟩,
   ⟨receiving 3 .read2 3 25 [7] [CycleInput.quiet], _, rfl, by decide⟩,
   ⟨receiving 3 .read2 3 4 [7] [resetInput], _, rfl, by decide⟩,
   ⟨sending 15 [CycleInput.quiet], _, rfl, by decide⟩⟩

theorem inv_capturing_bare : Inv (capturing 12 12 [] []) := by
  constructor
  case const_legal => exact Constants.source_legal
  case rdata_zero => show ∀ (k : Nat) (h : k < 16), 2 ≤ k → _; decide
  case step_range => exact fun _ => ⟨.read1, .read2, by decide⟩
  case timeout_clear => exact fun h => absurd h (by decide)
  all_goals decide

/-- A running command that meets the invariant: READ in its second step, with a marker and two captured bytes. -/
theorem inv_capturing (held : List Byte) (plan : List CycleInput) : Inv (capturing 12 12 held plan) := by
  obtain ⟨_, _, _, _, _, _, _, _, _, _, _, _, _, _, _, _, _⟩ := inv_capturing_bare
  constructor <;> assumption

theorem test_meets_invariant :
    (∃ s t : State, Inv s ∧ step s = .next t ∧ s.st = .rx ∧ s.cap = true) ∧
    (∃ s t : State, Inv s ∧ step s = .next t ∧ s.input.rst = false ∧ s.st ≠ .idle) :=
  ⟨⟨capturing 12 12 [1] [CycleInput.quiet], _, inv_capturing _ _, rfl, by decide⟩,
   ⟨capturing 12 12 [1] [CycleInput.quiet], _, inv_capturing _ _, rfl, by decide⟩⟩

theorem test_meets_operandLatch :
    (∃ s t : State, step s = .next t ∧ s.input.rst = true) ∧
    (∃ (s t : State) (c : Command), step s = .next t ∧ s.input.rst = false ∧ s.st = .idle ∧ s.cmdOffer = some c) ∧
    (∃ s t : State, step s = .next t ∧ s.input.rst = false ∧ s.st ≠ .idle) :=
  ⟨⟨at0 [resetInput], _, rfl, by decide⟩,
   ⟨at0 [CycleInput.offer { cw := 0x02B, data := zero16 }], _, _, rfl, by decide, by decide, rfl⟩,
   ⟨sending 3 [CycleInput.quiet], _, rfl, by decide⟩⟩

/-- A cycle in which a new step begins, and one in which the step goes on. -/
theorem test_meets_stepOrder :
    (∃ s t : State, step s = .next t ∧ s.input.rst = false ∧ s.st = .rx ∧ t.st = .tx ∧ Inv s) ∧
    (∃ s t : State, step s = .next t ∧ s.input.rst = false ∧ s.st = .tx ∧ t.st = .tx ∧ Inv s) := by
  refine ⟨⟨receiving 3 .read1 9 9 [7] [CycleInput.quiet], _, rfl, by decide, by decide, by decide, ?_⟩,
    ⟨sending 3 [CycleInput.quiet], _, rfl, by decide, by decide, by decide, ?_⟩⟩ <;> constructor
  case' refine_1.step_range => exact fun _ => ⟨.read1, .read2, by decide⟩
  case' refine_2.step_range => exact fun _ => ⟨.read1, .read2, by decide⟩
  all_goals first | exact Constants.source_legal | exact fun h => absurd h (by decide) | decide

theorem test_meets_run : ∃ (s t : State) (n : Nat), 0 < n ∧ runSteps n s = .next t :=
  ⟨at0 [CycleInput.offer { cw := 0x007, data := zero16 }], _, 1, by decide, rfl⟩

theorem test_meets_rdata :
    (∃ s t : State, step s = .next t ∧ t.rdata ≠ s.rdata ∧ s.st = .rx ∧ s.cfg.deadlineTicks < s.elapsed) ∧
    (∃ s t : State, step s = .next t ∧ t.rdata ≠ s.rdata ∧ s.st = .rx ∧ s.elapsed ≤ s.cfg.deadlineTicks) :=
  ⟨⟨capturing 12 25 [7] [CycleInput.quiet], _, rfl, by decide, by decide⟩,
   ⟨capturing 12 24 [7] [CycleInput.quiet], _, rfl, by decide, by decide⟩⟩

/-- Two runs in which another byte is held and another byte arrives: a cycle that lets `b` arrive. -/
def arriving (b : Byte) : CycleInput := { CycleInput.quiet with arrive := [b] }

theorem test_meets_content :
    ∃ s t : State, SameButContent s t ∧ s.stream ≠ t.stream ∧ s.script ≠ t.script ∧ ∃ s', runSteps 1 s = .next s' := by
  refine ⟨capturing 12 12 [1] [arriving 3], capturing 12 12 [2] [arriving 4], ?_, by decide, by decide, _, rfl⟩
  constructor
  case script => exact .cons ⟨rfl, rfl, rfl, rfl⟩ .nil
  all_goals rfl

theorem test_meets_frameSent :
    ∃ (s : State) (plan : List CycleInput), s.st = .tx ∧ s.idx = 0 ∧
      s.script = List.replicate (frameLen s.step) CycleInput.quiet ++ plan :=
  ⟨sending 0 (List.replicate 16 CycleInput.quiet), [], by decide⟩

theorem test_meets_tooFewBytes :
    ∃ (s : State) (plan : List CycleInput) (n : Nat), Inv s ∧ s.st = .rx ∧ s.elapsed + n = s.cfg.deadlineTicks + 2 ∧
      s.script = List.replicate n CycleInput.quiet ++ plan ∧ s.cnt.toNat + s.stream.rxHeld.length < s.cfg.expected s.step :=
  ⟨capturing 12 12 (List.replicate 12 1) (List.replicate 14 CycleInput.quiet), [], 14, inv_capturing _ _, by decide⟩

theorem test_meets_auth :
    ∃ s : State, s.cfg.const = Constants.source ∧ s.st = .idle ∧
      s.script = CycleInput.offer (encode (.auth 0 zero16)) :: (List.replicate 60 CycleInput.quiet ++ []) ∧
      s.stream.rxHeld = List.replicate 10 1 ++ List.replicate 12 2 ++ List.replicate 14 3 ++ [4] ∧
      13 ≤ s.cfg.deadlineTicks :=
  ⟨{ at0 (CycleInput.offer (encode (.auth 0 zero16)) :: (List.replicate 60 CycleInput.quiet ++ [])) with
      stream := ⟨List.replicate 10 1 ++ List.replicate 12 2 ++ List.replicate 14 3 ++ [4], []⟩ },
    rfl, rfl, rfl, rfl, by decide⟩

theorem test_meets_confirm :
    ∃ s : State, s.cfg.const = Constants.source ∧ s.st = .idle ∧
      s.script = CycleInput.offer (encode (.confirm 0 zero16)) :: (List.replicate 24 CycleInput.quiet ++ []) ∧
      s.stream.rxHeld = List.replicate 11 1 ++ [4] ∧ 10 ≤ s.cfg.deadlineTicks :=
  ⟨{ at0 (CycleInput.offer (encode (.confirm 0 zero16)) :: (List.replicate 24 CycleInput.quiet ++ [])) with
      stream := ⟨List.replicate 11 1 ++ [4], []⟩ }, rfl, rfl, rfl, rfl, by decide⟩

/-- The deadline is the smallest with which READ can succeed (70_reset_and_hazards.md R240). -/
theorem test_meets_read :
    ∃ s : State, s.cfg.const = Constants.source ∧ s.st = .idle ∧
      s.script = CycleInput.offer (encode (.read 5 zero16)) :: (List.replicate 61 CycleInput.quiet ++ []) ∧
      s.stream.rxHeld = List.replicate 10 1 ++ List.replicate 25 2 ++ [4] ∧ 24 ≤ s.cfg.deadlineTicks ∧
      s.cfg.deadlineTicks = 24 :=
  ⟨{ at0 (CycleInput.offer (encode (.read 5 zero16)) :: (List.replicate 61 CycleInput.quiet ++ [])) with
      stream := ⟨List.replicate 10 1 ++ List.replicate 25 2 ++ [4], []⟩ }, rfl, rfl, rfl, rfl, by decide, by decide⟩

theorem test_meets_write :
    ∀ i ∈ [Instr.write 9 (encodeU32 42), .writeId 9 42],
      (i = .write 9 (encodeU32 42) ∨ ∃ v, i = .writeId 9 v ∧ encodeU32 42 = encodeU32 v) ∧
      ∃ s : State, s.cfg.const = Constants.source ∧ s.st = .idle ∧
        s.script = CycleInput.offer (encode i) :: (List.replicate 62 CycleInput.quiet ++ []) ∧
        s.stream.rxHeld = List.replicate 11 1 ++ List.replicate 10 2 ++ [4] ∧ 10 ≤ s.cfg.deadlineTicks := by
  intro i hi
  refine ⟨?_, { at0 (CycleInput.offer (encode i) :: (List.replicate 62 CycleInput.quiet ++ [])) with
      stream := ⟨List.replicate 11 1 ++ List.replicate 10 2 ++ [4], []⟩ }, rfl, rfl, rfl, rfl,
    (by decide : 10 ≤ cfg24.deadlineTicks)⟩
  simp only [List.mem_cons, List.not_mem_nil, or_false] at hi
  rcases hi with h | h
  · exact .inl h
  · exact .inr ⟨42, h, rfl⟩

theorem test_meets_flush :
    ∃ (s : State) (i : CycleInput), s.st = .idle ∧
      s.script = CycleInput.offer (encode (.flush 0 zero16)) :: { i with rst := false } :: [] :=
  ⟨at0 [CycleInput.offer (encode (.flush 0 zero16)), CycleInput.quiet], CycleInput.quiet, by decide⟩

end Sys2Proof.Tests
end

namespace Sys2Proof

/-! ### The numbering of the steps (00_scope.md R13) -/

/-- FAIL_STEP holds the step's R13 number in binary (10_state.md R33). -/
theorem StepId.bits_eq_ofNat_num (s : StepId) : s.bits = BitVec.ofNat 3 s.num.val :=
  BitVec.eq_of_toNat_eq (Nat.mod_eq_of_lt s.num.isLt).symm

/-- Settles O53: the 3-bit form is the number in binary, so only the eight numbers are left to read off. -/
theorem stepIdsAreNumberedZeroToSeven : Obligations.StepIdsAreNumberedZeroToSeven := by
  unfold Obligations.StepIdsAreNumberedZeroToSeven
  simp only [StepId.bits_eq_ofNat_num]
  decide

end Sys2Proof

namespace Sys2Proof

/-! ### Five-bit counters (10_state.md R25) -/

/-- Below 31 a five-bit element counts on without wrapping. -/
theorem toNat_succ_of_lt {x : BitVec 5} (h : x.toNat < 31) : (x + 1).toNat = x.toNat + 1 :=
  BitVec.toNat_add_of_lt (Nat.succ_lt_succ h)

/-! ### The steps of a command (10_state.md R27; 42_session_commands.md R161, R162) -/

theorem StepId.num_injective : Function.Injective StepId.num := by
  intro s t h
  cases s <;> cases t <;> revert h <;> decide

theorem StepId.num_succ {s : StepId} (h : s ≠ .write2) : s.succ.num.val = s.num.val + 1 := by
  cases s
  case write2 => exact absurd rfl h
  all_goals rfl

namespace Machine

/-- `s` is one of the steps `FIRST(OP)` to `LAST(OP)`. -/
def RunsStep (op : BitVec 3) (s : StepId) : Prop :=
  ∃ first last, firstOf op = some first ∧ lastOf op = some last ∧ first.num ≤ s.num ∧ s.num ≤ last.num

/-- `FIRST(OP)` and `LAST(OP)` of every code. -/
theorem stepTable : ∀ op : BitVec 3,
    (op = 1 ∧ firstOf op = some .auth1 ∧ lastOf op = some .auth3) ∨
    (op = 2 ∧ firstOf op = some .confirm ∧ lastOf op = some .confirm) ∨
    (op = 3 ∧ firstOf op = some .read1 ∧ lastOf op = some .read2) ∨
    (op = 4 ∧ firstOf op = some .write1 ∧ lastOf op = some .write2) ∨
    (firstOf op = none ∧ (op = 5 ∨ op = 0 ∨ op = 6 ∨ op = 7)) := by decide

/-- The four commands that have steps, with `FIRST(OP)` and `LAST(OP)`. -/
theorem firstOf_cases {op : BitVec 3} {first : StepId} (h : firstOf op = some first) :
    (op = 1 ∧ first = .auth1 ∧ lastOf op = some .auth3) ∨ (op = 2 ∧ first = .confirm ∧ lastOf op = some .confirm) ∨
    (op = 3 ∧ first = .read1 ∧ lastOf op = some .read2) ∨ (op = 4 ∧ first = .write1 ∧ lastOf op = some .write2) := by
  rcases stepTable op with ⟨hop, hf, hl⟩ | ⟨hop, hf, hl⟩ | ⟨hop, hf, hl⟩ | ⟨hop, hf, hl⟩ | ⟨hf, -⟩ <;>
    cases hf.symm.trans h
  · exact .inl ⟨hop, rfl, hl⟩
  · exact .inr (.inl ⟨hop, rfl, hl⟩)
  · exact .inr (.inr (.inl ⟨hop, rfl, hl⟩))
  · exact .inr (.inr (.inr ⟨hop, rfl, hl⟩))

/-- Every other command is FLUSH or a reserved code. -/
theorem firstOf_eq_none {op : BitVec 3} (h : firstOf op = none) : op = 5 ∨ op = 0 ∨ op = 6 ∨ op = 7 := by
  rcases stepTable op with ⟨-, hf, -⟩ | ⟨-, hf, -⟩ | ⟨-, hf, -⟩ | ⟨-, hf, -⟩ | ⟨-, hop⟩
  case inr.inr.inr.inr => exact hop
  all_goals cases hf.symm.trans h

theorem runsStep_first {op : BitVec 3} {first : StepId} (h : firstOf op = some first) : RunsStep op first := by
  rcases firstOf_cases h with ⟨-, rfl, hl⟩ | ⟨-, rfl, hl⟩ | ⟨-, rfl, hl⟩ | ⟨-, rfl, hl⟩ <;>
    exact ⟨_, _, h, hl, by decide, by decide⟩

theorem RunsStep.op_cases {op : BitVec 3} {s : StepId} (h : RunsStep op s) : op = 1 ∨ op = 2 ∨ op = 3 ∨ op = 4 := by
  obtain ⟨first, last, hf, -⟩ := h
  rcases firstOf_cases hf with ⟨h, -⟩ | ⟨h, -⟩ | ⟨h, -⟩ | ⟨h, -⟩ <;> simp [h]

theorem RunsStep.succ {op : BitVec 3} {s last : StepId} (h : RunsStep op s) (hl : lastOf op = some last)
    (hne : s ≠ last) : RunsStep op s.succ := by
  obtain ⟨first, last', hf, hl', hfs, hsl⟩ := h
  obtain rfl : last' = last := Option.some.inj (hl'.symm.trans hl)
  have hlt : s.num < last'.num := lt_of_le_of_ne hsl fun h => hne (StepId.num_injective h)
  have hsucc : s.succ.num.val = s.num.val + 1 := StepId.num_succ (by
    rintro rfl
    exact absurd hlt (not_lt.mpr (Fin.le_last _)))
  exact ⟨first, last', hf, hl, by omega, by omega⟩

/-- The armed step of a command is its last one (41_receiver_parser.md R142). -/
theorem RunsStep.not_armed {op : BitVec 3} {s last : StepId} (h : RunsStep op s) (hl : lastOf op = some last)
    (hne : s ≠ last) : armed s = false := by
  obtain ⟨first, last', hf, hl', hfs, hsl⟩ := h
  obtain rfl : last' = last := Option.some.inj (hl'.symm.trans hl)
  rcases firstOf_cases hf with ⟨-, rfl, hl'⟩ | ⟨-, rfl, hl'⟩ | ⟨-, rfl, hl'⟩ | ⟨-, rfl, hl'⟩ <;>
    cases hl'.symm.trans hl <;> revert hfs hsl hne <;> cases s <;> decide

theorem capMaxOf_le {c : Config} (h : c.const.legal) (op : BitVec 3) : capMaxOf c op ≤ 16 := by
  obtain ⟨-, hauth, hread⟩ := h
  unfold capMaxOf
  split_ifs
  · exact hauth
  · exact hread
  · exact Nat.zero_le _

/-! ### The captured bytes of a running response (41_receiver_parser.md R143 to R146) -/

/-- What the invariant says in RX of the elements the parser writes. -/
structure CaptureInv (s : State) : Prop where
  capcnt_le : s.capcnt.toNat ≤ capMaxOf s.cfg s.op
  rdata_zero : ∀ (k : Nat) (h : k < 16), s.capcnt.toNat ≤ k → s.rdata[k] = 0
  marker_capcnt : s.marker = false → s.capcnt = 0
  cap_eq : s.cap = s.marker
  cap_armed : s.cap = true → armed s.step = true

theorem Inv.capture {s : State} (h : Inv s) (hst : s.st = .rx) : CaptureInv s :=
  { h with cap_eq := (h.cap_marker hst).1, cap_armed := (h.cap_marker hst).2 }

/-- The parser keeps it: a byte is stored at the place CAPCNT below CAPMAX, and the marker turns capture mode on. -/
theorem CaptureInv.parse {s : State} (h : CaptureInv s) (hlegal : s.cfg.const.legal) (b : Byte) :
    CaptureInv (parse (capMaxOf s.cfg s.op) b s) := by
  have hmax := capMaxOf_le hlegal s.op
  rcases parse_cases (capMaxOf s.cfg s.op) b s with
    ⟨hcap, hlt, heq⟩ | ⟨-, -, heq⟩ | ⟨hcap, harmed, -, -, heq⟩ | ⟨-, -, heq⟩ <;> rw [heq]
  · have hsucc : (s.capcnt + 1).toNat = s.capcnt.toNat + 1 := toNat_succ_of_lt (by omega)
    refine { h with capcnt_le := ?_, rdata_zero := ?_, marker_capcnt := ?_ }
    · exact hsucc ▸ hlt
    · intro k hk hle
      have hle : s.capcnt.toNat + 1 ≤ k := hsucc ▸ hle
      exact (Vector.getElem_setIfInBounds_ne hk (by omega)).trans (h.rdata_zero k hk (by omega))
    · exact fun hm => absurd (h.cap_eq.symm.trans hcap) (by simpa using hm)
  · exact { h with }
  · have hzero : s.capcnt = 0 := h.marker_capcnt (h.cap_eq ▸ hcap)
    exact { h with marker_capcnt := fun _ => hzero, cap_eq := rfl, cap_armed := fun _ => harmed }
  · exact { h with }

/-- Counting the byte touches none of it. -/
theorem CaptureInv.afterByte {s : State} (h : CaptureInv s) (hlegal : s.cfg.const.legal) (b : Byte) :
    CaptureInv (afterByte (capMaxOf s.cfg s.op) b s) := by
  have hmax : s.cfg.capMax (rowOf s.running).capture = capMaxOf s.cfg s.op :=
    (rowOf_decodeOp s.op s.block s.wdata).2.2.1 s.cfg
  have hparse := h.parse hlegal b
  rw [← hmax] at hparse ⊢
  rw [← counted_eq]
  exact { hparse with }

/-- What the accept of a command can do, by its code (42_session_commands.md R163, R168). -/
theorem accept_decodeOp_cases (op : BitVec 3) (b : Byte) (d : Bytes16) (s : State) :
    (∃ first, firstOf op = some first ∧ accept (rowOf (decodeOp op b d)) b d s =
      { latch op b d s with result := .none, step := first, idx := 0, st := .tx }) ∨
    (op = 5 ∧ accept (rowOf (decodeOp op b d)) b d s = { latch op b d s with result := .none, st := .fl }) ∨
    ((op = 0 ∨ op = 6 ∨ op = 7) ∧ accept (rowOf (decodeOp op b d)) b d s = finish .illegal (latch op b d s)) := by
  obtain ⟨hop, -, -, hstart⟩ := rowOf_decodeOp op b d
  cases hfirst : firstOf op with
  | some first =>
    rw [hfirst] at hstart
    exact .inl ⟨first, rfl, by simp only [accept, hop, hstart]⟩
  | none =>
    rw [hfirst] at hstart
    by_cases hflush : op = 5
    · exact .inr (.inl ⟨hflush, by simp only [accept, hop, hstart, if_pos hflush]⟩)
    · exact .inr (.inr ⟨(firstOf_eq_none hfirst).resolve_left hflush,
        by simp only [accept, hop, hstart, if_neg hflush]⟩)

/-- What an RX cycle of the running command can do when it answers a next state (41_receiver_parser.md R138). -/
theorem rxCycle_running_next {s t : State} (h : rxCycle (rowOf s.running) s = .next t) :
    (s.cfg.deadlineTicks < s.elapsed ∧ t = finish .timeout s) ∨
    (s.elapsed ≤ s.cfg.deadlineTicks ∧
      (t = { s with elapsed := s.elapsed + 1, doneR := false } ∨
       ∃ b, s.rxOffer = some b ∧
        ((s.cnt.toNat + 1 ≠ s.cfg.expected s.step ∧ t = afterByte (capMaxOf s.cfg s.op) b s) ∨
         (lastOf s.op = some s.step ∧ t = finish .ok (afterByte (capMaxOf s.cfg s.op) b s)) ∨
         (∃ last, lastOf s.op = some last ∧ s.step ≠ last ∧
           t = { afterByte (capMaxOf s.cfg s.op) b s with step := s.step.succ, idx := 0, st := .tx })))) := by
  obtain ⟨-, hlast, hmax, -⟩ := rowOf_decodeOp s.op s.block s.wdata
  rcases rxCycle_next h with ⟨hlt, rfl⟩ | ⟨hle, -, rfl⟩ | ⟨b, hle, hb, hne, rfl⟩ | ⟨b, hle, hb, -, hl, rfl⟩ |
    ⟨b, last, hle, hb, -, hl, hne, rfl⟩
  · exact .inl ⟨hlt, rfl⟩
  · exact .inr ⟨hle, .inl rfl⟩
  all_goals rw [counted_eq, State.running, hmax s.cfg]
  · exact .inr ⟨hle, .inr ⟨b, hb, .inl ⟨hne, rfl⟩⟩⟩
  · exact .inr ⟨hle, .inr ⟨b, hb, .inr (.inl ⟨hlast.symm.trans hl, rfl⟩)⟩⟩
  · exact .inr ⟨hle, .inr ⟨b, hb, .inr (.inr ⟨last, hlast.symm.trans hl, hne, rfl⟩)⟩⟩

/-! ### The invariant, one lemma for each thing a cycle can do -/

/-- The invariant says nothing of the surroundings. -/
theorem Inv.tick {u : State} (h : Inv u) (s : State) : Inv (tick s u) := { h with }

/-- A machine at rest whose result elements an accept has just cleared. -/
theorem inv_latch {s : State} (hlegal : s.cfg.const.legal) (helapsed : s.elapsed ≤ s.cfg.deadlineTicks + 1)
    (op : BitVec 3) (b : Byte) (d : Bytes16) : Inv { latch op b d s with st := .idle, result := .none } where
  const_legal := hlegal
  idx_lt := nofun
  cnt_lt := nofun
  elapsed_le := helapsed
  step_range := nofun
  fl_op := nofun
  busy_none h := absurd rfl h
  done_ended := nofun
  capcnt_le := Nat.zero_le _
  rdata_zero _ h _ := Vector.getElem_replicate h
  marker_capcnt _ := rfl
  cap_marker := nofun
  tx_marker _ := rfl
  fail_zero _ := rfl
  timeout_clear := nofun
  ok_op := nofun
  illegal_op := nofun

/-- Reset clears what an accept clears, and `elapsed`. -/
theorem inv_resetEngine {s : State} (hlegal : s.cfg.const.legal) : Inv (resetEngine s) :=
  { inv_latch (s := resetEngine s) hlegal (Nat.zero_le _) 0 0 zero16 with }

/-- An accept starts from cleared result elements, so it needs nothing of the state before but the configuration and the
bound on `elapsed`. -/
theorem inv_accept {s : State} (hlegal : s.cfg.const.legal) (helapsed : s.elapsed ≤ s.cfg.deadlineTicks + 1)
    (op : BitVec 3) (b : Byte) (d : Bytes16) : Inv (accept (rowOf (decodeOp op b d)) b d s) := by
  have hcleared := inv_latch hlegal helapsed op b d
  rcases accept_decodeOp_cases op b d s with ⟨first, hfirst, heq⟩ | ⟨hop, heq⟩ | ⟨hop, heq⟩ <;> rw [heq]
  · exact { hcleared with
      idx_lt := fun _ => frameLen_pos first
      cnt_lt := nofun
      step_range := fun _ => runsStep_first hfirst
      fl_op := nofun
      busy_none := fun _ => ⟨rfl, rfl⟩
      cap_marker := nofun
      tx_marker := fun _ => rfl }
  · exact { hcleared with
      idx_lt := nofun
      cnt_lt := nofun
      step_range := nofun
      fl_op := fun _ => hop
      busy_none := fun _ => ⟨rfl, rfl⟩
      cap_marker := nofun
      tx_marker := fun _ => rfl }
  · exact { hcleared with
      busy_none := fun hne => absurd rfl hne
      done_ended := nofun
      fail_zero := fun _ => rfl
      timeout_clear := nofun
      ok_op := nofun
      illegal_op := fun _ => hop }

theorem Inv.idleCycle {s : State} (h : Inv s) (hst : s.st = .idle) : Inv (idleCycle s) :=
  { h with busy_none := fun hne => absurd hst hne, done_ended := nofun }

/-- RESULT is NONE while a command runs, so FAIL_STEP is 0. -/
theorem Inv.failStep_of_busy {s : State} (h : Inv s) (hst : s.st ≠ .idle) : s.failStep = 0 :=
  h.fail_zero (by simp [(h.busy_none hst).1])

theorem Inv.txCycle {s : State} (h : Inv s) (hst : s.st = .tx) : Inv (txCycle s) := by
  have hbusy := h.busy_none (by simp [hst])
  have hidx := h.idx_lt hst
  rcases txCycle_cases s with ⟨-, heq⟩ | ⟨hne, heq⟩ <;> rw [heq]
  · exact { h with
      idx_lt := nofun
      cnt_lt := fun _ => Config.expected_pos h.const_legal s.step
      elapsed_le := Nat.zero_le _
      step_range := fun _ => h.step_range (.inl hst)
      fl_op := nofun
      busy_none := fun _ => ⟨hbusy.1, rfl⟩
      done_ended := nofun
      cap_marker := fun _ => ⟨(h.tx_marker (.inl hst)).symm, nofun⟩
      tx_marker := nofun }
  · have hsucc : (s.idx + 1).toNat = s.idx.toNat + 1 := toNat_succ_of_lt (by have := frameLen_le s.step; omega)
    exact { h with
      idx_lt := fun _ => by change (s.idx + 1).toNat < frameLen s.step; omega
      busy_none := fun _ => ⟨hbusy.1, rfl⟩
      done_ended := nofun }

/-- A running command has steps or is FLUSH (42_session_commands.md R161). -/
theorem Inv.op_of_busy {s : State} (h : Inv s) (hst : s.st ≠ .idle) :
    s.op = 1 ∨ s.op = 2 ∨ s.op = 3 ∨ s.op = 4 ∨ s.op = 5 := by
  have hrun (hst : s.st = .tx ∨ s.st = .rx) := RunsStep.op_cases (h.step_range hst)
  cases hs : s.st with
  | idle => exact absurd hs hst
  | tx => have := hrun (.inl hs); tauto
  | rx => have := hrun (.inr hs); tauto
  | fl => simp [h.fl_op hs]

/-- In IDLE nothing is asked of the elements of a running step (10_state.md R40). -/
theorem Inv.at_rest {s : State} (h : Inv s) : Inv { s with st := .idle } :=
  { h with
    idx_lt := nofun
    cnt_lt := nofun
    step_range := nofun
    fl_op := nofun
    busy_none := fun hne => absurd rfl hne
    cap_marker := nofun
    tx_marker := nofun }

/-- A command that ends with OK keeps what it captured. -/
theorem Inv.finish_ok {s : State} (h : Inv s) (hst : s.st ≠ .idle) : Inv (finish .ok s) :=
  { h.at_rest with
    busy_none := fun hne => absurd rfl hne
    done_ended := nofun
    fail_zero := fun _ => h.failStep_of_busy hst
    timeout_clear := nofun
    ok_op := fun _ => h.op_of_busy hst
    illegal_op := nofun }

/-- A timeout clears what was captured and saves the running step. -/
theorem Inv.finish_timeout {s : State} (h : Inv s) (hst : s.st = .rx) : Inv (finish .timeout s) :=
  { h.at_rest with
    busy_none := fun hne => absurd rfl hne
    done_ended := nofun
    capcnt_le := Nat.zero_le _
    rdata_zero := fun _ hk _ => Vector.getElem_replicate hk
    marker_capcnt := fun _ => rfl
    cap_marker := nofun
    tx_marker := nofun
    fail_zero := fun hne => absurd rfl hne
    timeout_clear := fun _ => ⟨rfl, rfl, rfl, h.step_range (.inr hst)⟩
    ok_op := nofun
    illegal_op := nofun }

/-- A byte taken in the window, with any count `n` below `E(step)` in the place of its own. -/
theorem Inv.afterByte {s : State} (h : Inv s) (hst : s.st = .rx) (hle : s.elapsed ≤ s.cfg.deadlineTicks) (b : Byte)
    {n : BitVec 5} (hn : n.toNat < s.cfg.expected s.step) :
    Inv { afterByte (capMaxOf s.cfg s.op) b s with cnt := n } := by
  have hcap := (h.capture hst).afterByte h.const_legal b
  have hnone := (h.busy_none (by simp [hst])).1
  exact { h with
    cnt_lt := fun _ => hn
    elapsed_le := Nat.succ_le_succ hle
    busy_none := fun _ => ⟨hnone, rfl⟩
    done_ended := nofun
    capcnt_le := hcap.capcnt_le
    rdata_zero := hcap.rdata_zero
    marker_capcnt := hcap.marker_capcnt
    cap_marker := fun _ => ⟨hcap.cap_eq, hcap.cap_armed⟩
    tx_marker := fun hst' => absurd (show s.st = .tx ∨ s.st = .fl from hst') (by simp [hst])
    timeout_clear := fun ht => absurd (hnone.symm.trans ht) (by simp) }

theorem Inv.rxCycle {s t : State} (h : Inv s) (hst : s.st = .rx) (hcyc : rxCycle (rowOf s.running) s = .next t) :
    Inv t := by
  have hbusy : s.st ≠ .idle := by simp [hst]
  have hnone := (h.busy_none hbusy).1
  rcases rxCycle_running_next hcyc with ⟨-, rfl⟩ | ⟨hle, rfl | ⟨b, -, hcase⟩⟩
  · exact h.finish_timeout hst
  · exact { h with
      elapsed_le := Nat.succ_le_succ hle
      busy_none := fun _ => ⟨hnone, rfl⟩
      done_ended := nofun }
  rcases hcase with ⟨hne, rfl⟩ | ⟨-, rfl⟩ | ⟨last, hlast, hne, rfl⟩
  · have hcnt := h.cnt_lt hst
    have hsucc : (s.cnt + 1).toNat = s.cnt.toNat + 1 :=
      toNat_succ_of_lt (by have := Config.expected_lt h.const_legal s.step; omega)
    exact h.afterByte hst hle b (by omega)
  · have hend := (h.afterByte hst hle b (n := 0) (Config.expected_pos h.const_legal s.step)).finish_ok hbusy
    exact { hend with cnt_lt := nofun }
  · have hrun : RunsStep s.op s.step := h.step_range (.inr hst)
    have hcap := (h.capture hst).afterByte h.const_legal b
    have hmarker : (Machine.afterByte (capMaxOf s.cfg s.op) b s).marker = false := by
      rw [← hcap.cap_eq, ← Bool.not_eq_true]
      intro hc
      exact absurd ((hcap.cap_armed hc).symm.trans (hrun.not_armed hlast hne)) (by decide)
    exact { h.afterByte hst hle b (n := 0) (Config.expected_pos h.const_legal s.step) with
      idx_lt := fun _ => frameLen_pos s.step.succ
      cnt_lt := nofun
      step_range := fun _ => hrun.succ hlast hne
      fl_op := nofun
      busy_none := fun _ => ⟨hnone, rfl⟩
      cap_marker := nofun
      tx_marker := fun _ => hmarker }

/-- Settles O36, by the cases of `step_next`: each part of a cycle keeps the invariant. -/
theorem everyStepKeepsTheInvariant : Obligations.EveryStepKeepsTheInvariant := by
  intro s t h hstep
  obtain ⟨u, rfl, hu⟩ := step_next hstep
  refine Inv.tick ?_ s
  rcases hu with ⟨-, rfl⟩ | ⟨-, hst, -, rfl⟩ | ⟨c, -, -, -, rfl⟩ | ⟨-, hst, rfl⟩ | ⟨-, hst, hrx⟩ | ⟨-, hst, rfl⟩
  · exact inv_resetEngine h.const_legal
  · exact h.idleCycle hst
  · exact inv_accept h.const_legal h.elapsed_le c.op c.block c.data
  · exact h.txCycle hst
  · exact h.rxCycle hst hrx
  · exact h.finish_ok (by simp [hst])

/-- Settles O35: the reset state is the state after a reset cycle. -/
theorem invariantHoldsAtReset : Obligations.InvariantHoldsAtReset :=
  inv_resetEngine (s := State.reset) Constants.source_legal

end Machine
end Sys2Proof

namespace Sys2Proof

/-! ### The fields of STATUS and the outputs (10_state.md R33, R41) -/

/-- A field above the low part of a concatenation is a field of the high part. -/
theorem extract_above {m n k w : Nat} (b : BitVec m) (o : BitVec n) :
    (b ++ o).extractLsb' (k + n) w = b.extractLsb' k w := by
  rw [BitVec.extractLsb'_append_eq_of_le (Nat.le_add_left n k), Nat.add_sub_cancel]

namespace Machine

theorem ofBool_eq_one_iff (b : Bool) : BitVec.ofBool b = 1 ↔ b = true := by cases b <;> decide

theorem State.busy_eq (s : State) : s.busy = decide (s.st ≠ .idle) := (decide_not (p := s.st = .idle)).symm

section
variable (s : State)

theorem State.status_busy : s.status.extractLsb' 0 1 = BitVec.ofBool s.busy := extract_low _ _

theorem State.status_result : s.status.extractLsb' 1 2 = s.result.bits :=
  (extract_above _ _).trans (extract_low _ _)

theorem State.status_failStep : s.status.extractLsb' 3 3 = s.failStep :=
  (extract_above _ _).trans <| (extract_above _ _).trans (extract_low _ _)

theorem State.status_marker : s.status.extractLsb' 6 1 = BitVec.ofBool s.marker :=
  (extract_above _ _).trans <| (extract_above _ _).trans <| (extract_above _ _).trans (extract_low _ _)

theorem State.status_above_marker (k w : Nat) :
    s.status.extractLsb' (k + 1 + 3 + 2 + 1) w = (0#1 ++ s.op ++ s.capcnt).extractLsb' k w :=
  (extract_above _ _).trans <| (extract_above _ _).trans <| (extract_above _ _).trans (extract_above _ _)

theorem State.status_capcnt : s.status.extractLsb' 7 5 = s.capcnt :=
  (s.status_above_marker 0 5).trans (extract_low _ _)

theorem State.status_op : s.status.extractLsb' 12 3 = s.op :=
  (s.status_above_marker 5 3).trans <| (extract_above _ _).trans (extract_low _ _)

theorem State.status_reserved : s.status.extractLsb' 15 1 = 0 :=
  (s.status_above_marker 8 1).trans <| (extract_above _ _).trans (extract_high _ _)

end

/-- Settles O18: the fields of STATUS are read off one by one, from the lowest up. -/
theorem statusWordFields : Obligations.StatusWordFields := by
  intro s
  refine ⟨?_, s.status_result.trans ?_, s.status_failStep, ?_, s.status_capcnt, s.status_op, s.status_reserved⟩
  · rw [s.status_busy, ofBool_eq_one_iff, s.busy_eq, decide_eq_true_iff]
  · cases s.result <;> rfl
  · rw [s.status_marker, ofBool_eq_one_iff]

/-- Settles O16: each output is its rule in R41, by the definition of `State.outputs`. -/
theorem outputsOfTheState : Obligations.OutputsOfTheState := by
  intro s
  refine ⟨decide_eq_true_iff, decide_eq_true_iff, fun h => if_pos h, fun h => if_neg h, ?_, decide_eq_true_iff,
    rfl, rfl, ?_⟩
  · simp only [State.outputs, Bool.and_eq_true, decide_eq_true_iff]
  · rw [← s.busy_eq]
    cases hresult : s.result <;> simp only [State.outputs, State.status, hresult] <;> rfl

/-! ### Frames and operands (10_state.md R30, R31) -/

/-- Settles O15, by the payload and the check byte of each step. -/
theorem framesIgnoreTheOperandsTheyDoNotCarry : Obligations.FramesIgnoreTheOperandsTheyDoNotCarry := by
  refine ⟨fun c b b' d s h1 h2 => ?_, fun c b d d' s h1 h2 => ?_, fun c b d d' h0 h1 h2 h3 => ?_⟩
  · cases s
    case read1 => exact absurd rfl h1
    case read2 => exact absurd rfl h2
    all_goals rfl
  · cases s
    case confirm => exact absurd rfl h1
    case write2 => exact absurd rfl h2
    all_goals rfl
  · have hpayload : payload c b d .confirm = payload c b d' .confirm := by simp only [payload, h0, h1, h2, h3]
    simp only [frame, check, hpayload]

/-! ### The operands of the port and the latch (10_state.md R29) -/

/-- The constants of a command depend on its code alone (42_session_commands.md R161). -/
theorem rowOf_eq_of_opcode {i j : Instr} (h : i.opcode = j.opcode) : rowOf i = rowOf j := by
  have hrow (i : Instr) : rowOf i = rowOf (decodeOp i.opcode 0 zero16) := by cases i <;> rfl
  rw [hrow i, h, ← hrow j]

/-- A running command does not see the operands on the port. -/
theorem commandCycle_of_busy {s : State} (hst : s.st ≠ .idle) (k : CommandRow) (b b' : Byte) (d d' : Bytes16) :
    commandCycle k b d s = commandCycle k b' d' s := by
  unfold commandCycle
  cases hs : s.st with
  | idle => exact absurd hs hst
  | tx | rx | fl => rfl

/-- Settles O22: the code gives the constants, and the operands are not read. -/
theorem operandsAreReadInTheAcceptCycleOnly : Obligations.OperandsAreReadInTheAcceptCycleOnly := by
  intro i j s hst hop
  rw [exec_eq, exec_eq, rowOf_eq_of_opcode hop]
  exact commandCycle_of_busy hst _ _ _ _ _

theorem accept_operands (k : CommandRow) (b : Byte) (d : Bytes16) (s : State) :
    (accept k b d s).op = k.op ∧ (accept k b d s).block = b ∧ (accept k b d s).wdata = d := by
  rcases accept_cases k b d s with ⟨first, -, heq⟩ | ⟨-, heq⟩ | ⟨-, heq⟩ <;> rw [heq] <;> exact ⟨rfl, rfl, rfl⟩

theorem txCycle_operands (s : State) :
    (txCycle s).op = s.op ∧ (txCycle s).block = s.block ∧ (txCycle s).wdata = s.wdata := by
  rcases txCycle_cases s with ⟨-, heq⟩ | ⟨-, heq⟩ <;> rw [heq] <;> exact ⟨rfl, rfl, rfl⟩

theorem rxCycle_operands {s t : State} (h : rxCycle (rowOf s.running) s = .next t) :
    t.op = s.op ∧ t.block = s.block ∧ t.wdata = s.wdata := by
  rcases rxCycle_running_next h with
    ⟨-, rfl⟩ | ⟨-, rfl | ⟨b, -, ⟨-, rfl⟩ | ⟨-, rfl⟩ | ⟨last, -, -, rfl⟩⟩⟩ <;> exact ⟨rfl, rfl, rfl⟩

/-- Settles O38, by the cases of `step_next`. -/
theorem operandLatchChangesAtAcceptAndResetAlone : Obligations.OperandLatchChangesAtAcceptAndResetAlone := by
  refine ⟨fun s t hstep => ?_, fun s plan => rfl⟩
  obtain ⟨u, rfl, hu⟩ := step_next hstep
  rcases hu with ⟨hr, rfl⟩ | ⟨hr, -, hoffer, rfl⟩ | ⟨c, hr, hst, hoffer, rfl⟩ | ⟨hr, hst, rfl⟩ | ⟨hr, hst, hrx⟩ |
    ⟨hr, hst, rfl⟩
  · exact ⟨fun _ => ⟨rfl, rfl, rfl⟩, by simp [hr], by simp [hr]⟩
  · exact ⟨by simp [hr], by simp [hoffer], fun _ _ => ⟨rfl, rfl, rfl⟩⟩
  · refine ⟨by simp [hr], fun c' _ _ hoffer' => ?_, by simp [hst, hoffer]⟩
    obtain rfl : c = c' := Option.some.inj (hoffer.symm.trans hoffer')
    obtain ⟨hop, hblock, hwdata⟩ := accept_operands (rowOf (decode c)) c.block c.data s
    exact ⟨hop.trans (rowOf_decodeOp c.op c.block c.data).1, hblock, hwdata⟩
  · have hkept := txCycle_operands s
    exact ⟨by simp [hr], by simp [hst], fun _ _ => hkept⟩
  · have hkept := rxCycle_operands hrx
    exact ⟨by simp [hr], by simp [hst], fun _ _ => hkept⟩
  · exact ⟨by simp [hr], by simp [hst], fun _ _ => ⟨rfl, rfl, rfl⟩⟩

/-! ### RDATA (10_state.md R32, R43) -/

theorem accept_rdata (k : CommandRow) (b : Byte) (d : Bytes16) (s : State) : (accept k b d s).rdata = zero16 := by
  rcases accept_cases k b d s with ⟨first, -, heq⟩ | ⟨-, heq⟩ | ⟨-, heq⟩ <;> rw [heq] <;> rfl

theorem txCycle_rdata (s : State) : (txCycle s).rdata = s.rdata := by
  rcases txCycle_cases s with ⟨-, heq⟩ | ⟨-, heq⟩ <;> rw [heq]

/-- A byte changes RDATA only where it is captured (41_receiver_parser.md R145). -/
theorem afterByte_rdata_of_ne {m : Nat} {b : Byte} {s : State} (h : (afterByte m b s).rdata ≠ s.rdata) :
    s.cap = true ∧ (afterByte m b s).capcnt = s.capcnt + 1 ∧
      (afterByte m b s).rdata = s.rdata.setIfInBounds s.capcnt.toNat b := by
  by_cases hstore : s.cap = true ∧ s.capcnt.toNat < m
  · exact ⟨hstore.1, if_pos hstore, if_pos hstore⟩
  · exact absurd (if_neg hstore) h

/-- What an RX cycle can do to RDATA: clear it at the timeout, or what its byte does to it. -/
theorem rxCycle_rdata {s t : State} (h : rxCycle (rowOf s.running) s = .next t) :
    (s.cfg.deadlineTicks < s.elapsed ∧ t = finish .timeout s) ∨ t.rdata = s.rdata ∨
    (s.elapsed ≤ s.cfg.deadlineTicks ∧ ∃ b, s.rxOffer = some b ∧
      t.rdata = (afterByte (capMaxOf s.cfg s.op) b s).rdata ∧ t.capcnt = (afterByte (capMaxOf s.cfg s.op) b s).capcnt) := by
  rcases rxCycle_running_next h with hlate | ⟨hle, rfl | ⟨b, hb, hcase⟩⟩
  · exact .inl hlate
  · exact .inr (.inl rfl)
  · refine .inr (.inr ⟨hle, b, hb, ?_⟩)
    rcases hcase with ⟨-, rfl⟩ | ⟨-, rfl⟩ | ⟨last, -, -, rfl⟩ <;> exact ⟨rfl, rfl⟩

/-- Settles O43, by the cases of `step_next`. -/
theorem rdataIsWrittenByCaptureAcceptAndTimeoutAlone : Obligations.RdataIsWrittenByCaptureAcceptAndTimeoutAlone := by
  intro s t hstep hne
  obtain ⟨u, rfl, hu⟩ := step_next hstep
  rcases hu with ⟨hr, rfl⟩ | ⟨-, -, -, rfl⟩ | ⟨c, -, hst, hoffer, rfl⟩ | ⟨-, -, rfl⟩ | ⟨-, hst, hrx⟩ | ⟨-, -, rfl⟩
  · exact .inl ⟨rfl, .inl hr⟩
  · exact absurd rfl hne
  · exact .inl ⟨accept_rdata _ _ _ s, .inr (.inl ⟨hst, by simp [hoffer]⟩)⟩
  · exact absurd (txCycle_rdata s) hne
  · rcases rxCycle_rdata hrx with ⟨hlate, rfl⟩ | hsame | ⟨hle, b, hb, hrdata, hcapcnt⟩
    · exact .inl ⟨rfl, .inr (.inr ⟨hst, hlate, rfl⟩)⟩
    · exact absurd hsame hne
    · have hstored : (afterByte (capMaxOf s.cfg s.op) b s).rdata ≠ s.rdata := hrdata ▸ hne
      obtain ⟨hcap, hcount, hset⟩ := afterByte_rdata_of_ne hstored
      exact .inr ⟨hst, hcap, hle, hcapcnt.trans hcount, b, hb, hrdata.trans hset⟩
  · exact absurd rfl hne

end Machine
end Sys2Proof

namespace Sys2Proof

open Machine

/-! ### The fields of a command and of an instruction (30_encoding.md R81, R82) -/

@[simp] theorem encode_op (i : Instr) : (encode i).op = i.opcode := extract_low _ _

@[simp] theorem encode_block (i : Instr) : (encode i).block = i.block := extract_high _ _

@[simp] theorem encode_data (i : Instr) : (encode i).data = i.data := rfl

@[simp] theorem decodeOp_opcode (op : BitVec 3) (b : Byte) (d : Bytes16) : (decodeOp op b d).opcode = op := by
  rw [← rowOf_op, (rowOf_decodeOp op b d).1]

theorem wellFormed_decodeOp (op : BitVec 3) (b : Byte) (d : Bytes16) : (decodeOp op b d).wellFormed = true := by
  rcases decodeOp_ofBits op b d with h | h | h | h | h | h | h | h <;> rw [h.2] <;> rfl

/-- An instruction's fields give it back, with WRITE_ID as the WRITE it expands to (R92). -/
theorem decodeOp_fields (i : Instr) : decodeOp i.opcode i.block i.data = i.expand := by cases i <;> rfl

/-- The pseudo-command alone is expanded (R92). -/
theorem Instr.expand_of_wellFormed {i : Instr} (h : i.wellFormed = true) : i.expand = i := by
  cases i with
  | writeId => cases h
  | reserved0 | auth | confirm | read | write | flush | reserved6 | reserved7 => rfl

theorem decode_encode (i : Instr) : decode (encode i) = i.expand := by
  rw [decode, encode_op, encode_block, encode_data, decodeOp_fields]

/-- The two fields of a command word are the whole of it (R81). -/
theorem Command.block_append_op (c : Command) : c.block ++ c.op = c.cw := by
  rw [Command.block, Command.op, BitVec.extractLsb'_append_extractLsb'_eq_extractLsb' (by rfl),
    BitVec.extractLsb'_eq_self]

theorem encode_decode (c : Command) : encode (decode c) = c := by
  rw [encode, decode, decodeOp_opcode, decodeOp_block, decodeOp_data, Command.block_append_op]

/-- Settles O4: the ports carry the fields, and the fields of a well-formed instruction give it back. -/
theorem decodeOfEncodeIsTheInstruction : Obligations.DecodeOfEncodeIsTheInstruction :=
  ⟨fun i h => (decode_encode i).trans (Instr.expand_of_wellFormed h), fun b v => decode_encode (.writeId b v)⟩

/-- Settles O5: decoding keeps the three fields, and these are all bits of a command. -/
theorem encodeOfDecodeIsTheCommand : Obligations.EncodeOfDecodeIsTheCommand :=
  fun c => ⟨encode_decode c, wellFormed_decodeOp c.op c.block c.data⟩

/-- Settles O7, by evaluating the decoder on the eight commands. -/
theorem specCommandWordsDecode : Obligations.SpecCommandWordsDecode := by
  unfold Obligations.SpecCommandWordsDecode
  decide

/-! ### The flat numbering (30_encoding.md R81) -/

theorem lt_of_mem_map_toNat {l : List Byte} {n : Nat} (h : n ∈ l.map BitVec.toNat) : n < 2 ^ 8 := by
  obtain ⟨b, -, rfl⟩ := List.mem_map.mp h
  exact b.isLt

/-- The bytes of a list are the digits of its flat vector in base 2^8. -/
theorem bytesToNat_eq_ofDigits (l : List Byte) : bytesToNat l = Nat.ofDigits (2 ^ 8) (l.map BitVec.toNat) := by
  induction l with
  | nil => rfl
  | cons b rest ih => rw [bytesToNat, ih, List.map_cons, Nat.ofDigits_cons]

theorem bytesToNat_lt (l : List Byte) : bytesToNat l < (2 ^ 8) ^ l.length := by
  rw [bytesToNat_eq_ofDigits, ← List.length_map BitVec.toNat]
  exact Nat.ofDigits_lt_base_pow_length (by decide) fun _ => lt_of_mem_map_toNat

/-- Shifting a flat vector by whole bytes drops them. -/
theorem bytesToNat_shiftRight (l : List Byte) (k : Nat) : bytesToNat l >>> (8 * k) = bytesToNat (l.drop k) := by
  rw [Nat.shiftRight_eq_div_pow, pow_mul, bytesToNat_eq_ofDigits, bytesToNat_eq_ofDigits, List.map_drop,
    Nat.ofDigits_div_pow_eq_ofDigits_drop k (by decide) _ fun _ => lt_of_mem_map_toNat]

/-- The low bits of a number that begins with a field are the field. -/
theorem ofNat_toNat_add_mul {n : Nat} (x : BitVec n) (y : Nat) : BitVec.ofNat n (x.toNat + 2 ^ n * y) = x := by
  apply BitVec.eq_of_toNat_eq
  rw [BitVec.toNat_ofNat, Nat.add_mul_mod_self_left, Nat.mod_eq_of_lt x.isLt]

/-- Byte k of a flat vector is at its bits `[8k+7:8k]`. -/
theorem ofNat_bytesToNat_shiftRight {l : List Byte} {k : Nat} (h : k < l.length) :
    BitVec.ofNat 8 (bytesToNat l >>> (8 * k)) = l[k] := by
  rw [bytesToNat_shiftRight, List.drop_eq_getElem_cons h, bytesToNat, ofNat_toNat_add_mul]

theorem Command.toFlat_lt (c : Command) : c.toFlat < 2 ^ 139 := by
  have hcw := c.cw.isLt
  have hdata := bytesToNat_lt c.data.toList
  rw [Vector.length_toList] at hdata
  unfold Command.toFlat
  omega

/-- The data operand begins at bit 11. -/
theorem Command.toFlat_shiftRight (c : Command) : c.toFlat >>> 11 = bytesToNat c.data.toList := by
  rw [Command.toFlat, Nat.shiftRight_eq_div_pow, Nat.add_mul_div_left _ _ (by decide), Nat.div_eq_of_lt c.cw.isLt,
    Nat.zero_add]

theorem Command.ofFlat_toFlat (c : Command) : Command.ofFlat c.toFlat = .ok c := by
  have hcw : BitVec.ofNat 11 c.toFlat = c.cw := ofNat_toNat_add_mul c.cw _
  have hdata : (Vector.ofFn fun k : Fin 16 => BitVec.ofNat 8 (c.toFlat >>> (11 + 8 * k.val))) = c.data := by
    ext1 k hk
    rw [Vector.getElem_ofFn, Nat.shiftRight_add, c.toFlat_shiftRight,
      ofNat_bytesToNat_shiftRight (c.data.length_toList.symm ▸ hk), Vector.getElem_toList]
  rw [Command.ofFlat, if_pos c.toFlat_lt, hcw, hdata]

theorem decodeFlat_of_le {w : Nat} (h : 2 ^ 139 ≤ w) : decodeFlat w = .error .tooWide := by
  rw [decodeFlat, Command.ofFlat, if_neg (Nat.not_lt.mpr h)]

/-- Settles O6: a command's fields are read back from its number one by one. -/
theorem flatNumberingLosesNothing : Obligations.FlatNumberingLosesNothing :=
  ⟨fun c => ⟨c.toFlat_lt, c.ofFlat_toFlat⟩, fun _ h => decodeFlat_of_le h⟩

/-! ### The block value of WRITE_ID (30_encoding.md R92) -/

/-- The four bytes of a value, joined from the most significant down, are the value. -/
theorem decodeU32_encodeU32 (v : BitVec 32) : decodeU32 (encodeU32 v) = v := by
  change v.extractLsb' 24 8 ++ v.extractLsb' 16 8 ++ v.extractLsb' 8 8 ++ v.extractLsb' 0 8 = v
  simp only [BitVec.extractLsb'_append_extractLsb'_eq_extractLsb', BitVec.extractLsb'_eq_self]

namespace Machine

/-- The meaning of WRITE_ID is that of the WRITE it expands to (R92). -/
theorem exec_expand (i : Instr) (s : State) : exec i.expand s = exec i s := by cases i <;> rfl

/-- Settles O8: the bytes are those of `encodeU32`, whose value reads back. -/
theorem writeIdIsAWriteOfTheValue : Obligations.WriteIdIsAWriteOfTheValue :=
  fun blk v => ⟨rfl, fun s => (exec_expand (.writeId blk v) s).symm, decodeU32_encodeU32 v⟩

/-! ### The operands of a line of text (30_encoding.md R91) -/

theorem padded_getElem (l : List Byte) {k : Nat} (hk : k < 16) : (padded l)[k] = l.getD k 0 := Vector.getElem_ofFn hk

theorem padded_toList {l : List Byte} (h : l.length ≤ 16) :
    (padded l).toList = l ++ List.replicate (16 - l.length) 0 := by
  apply List.ext_getElem
  · simp [h]
  · intro k hk _
    rw [Vector.getElem_toList, padded_getElem, List.getElem_append]
    split
    · exact List.getD_eq_getElem l 0 ‹_›
    · rw [List.getElem_replicate, List.getD_eq_default l 0 (Nat.not_lt.mp ‹_›)]

theorem padded_self (d : Bytes16) : padded d.toList = d := by
  rw [← Vector.toList_inj, padded_toList d.length_toList.le, d.length_toList, Nat.sub_self, List.replicate_zero,
    List.append_nil]

/-- The operand bytes of a line fill the buffer from its start, with 0 behind them. -/
theorem dataOf_map_toNat (l : List Byte) : dataOf (l.map BitVec.toNat) = padded l := by
  ext1 k hk
  have hbyte : (l.map BitVec.toNat).getD k 0 = (l.getD k 0).toNat := List.getD_map l 0 BitVec.toNat
  rw [padded_getElem, dataOf, Vector.getElem_ofFn, hbyte, BitVec.ofNat_toNat, BitVec.setWidth_eq]

theorem all_map_toNat_lt (l : List Byte) : (l.map BitVec.toNat).all (· < 256) = true :=
  List.all_eq_true.mpr fun _ h => decide_eq_true (lt_of_mem_map_toNat h)

section
variable (b n : Nat) (ops : List Nat)

theorem assemble_confirm : assemble "CONFIRM".toList ops =
    if ops.length = 4 ∧ ops.all (· < 256) then .ok (.confirm 0 (dataOf ops)) else .error .badOperands := rfl

theorem assemble_read : assemble "READ".toList [b] =
    if b < 256 then .ok (.read (BitVec.ofNat 8 b) zero16) else .error .badOperands := rfl

theorem assemble_write : assemble "WRITE".toList (b :: ops) =
    if ops.length = 16 ∧ (b :: ops).all (· < 256) then .ok (.write (BitVec.ofNat 8 b) (dataOf ops))
    else .error .badOperands := rfl

theorem assemble_op : assemble ".op".toList [n] =
    if n < 8 then .ok (decodeOp (BitVec.ofNat 3 n) 0 zero16) else .error .badOperands := rfl

theorem assemble_writeId : assemble "WRITE_ID".toList [b, n] =
    if b < 256 ∧ n < 2 ^ 32 then .ok (.writeId (BitVec.ofNat 8 b) (BitVec.ofNat 32 n))
    else .error .badOperands := rfl

end

/-- Settles O9, mnemonic by mnemonic: the operands are in range, so each line fills its fields. -/
theorem assemblerFillsTheNamedFields : Obligations.AssemblerFillsTheNamedFields := by
  refine ⟨rfl, rfl, fun p0 p1 p2 p3 => ⟨padded [p0, p1, p2, p3], ?_, padded_toList (by simp)⟩, fun b => ?_,
    fun b d => ?_, fun b v => ?_, fun op => ⟨decodeOp op 0 zero16, ?_, by simp⟩⟩
  · have hrange := all_map_toNat_lt [p0, p1, p2, p3]
    rw [← dataOf_map_toNat]
    exact (assemble_confirm _).trans (if_pos ⟨rfl, hrange⟩)
  · rw [assemble_read, if_pos b.isLt, BitVec.ofNat_toNat, BitVec.setWidth_eq]
  · have hrange := all_map_toNat_lt (b :: d.toList)
    rw [assemble_write, if_pos ⟨by simp, hrange⟩, dataOf_map_toNat, padded_self, BitVec.ofNat_toNat,
      BitVec.setWidth_eq]
  · rw [assemble_writeId, if_pos ⟨b.isLt, v.isLt⟩, BitVec.ofNat_toNat, BitVec.setWidth_eq, BitVec.ofNat_toNat,
      BitVec.setWidth_eq]
  · rw [assemble_op, if_pos op.isLt, BitVec.ofNat_toNat, BitVec.setWidth_eq]

end Machine
end Sys2Proof

namespace Sys2Proof
namespace Machine

/-! ### The check-byte generator (40_frame_codec.md R100, R101) -/

/-- XOR is associative and commutative, so the payload's order does not matter. -/
theorem checksum_perm (seed : Byte) {p q : List Byte} (h : p.Perm q) : checksum seed p = checksum seed q :=
  h.foldl_eq' (fun x _ y _ z => by ac_rfl) seed

/-- Equal bytes cancel in pairs. -/
theorem checksum_replicate_of_even {n : Nat} (hn : Even n) (seed b : Byte) :
    checksum seed (List.replicate n b) = seed := by
  obtain ⟨k, rfl⟩ := hn
  induction k with
  | zero => rfl
  | succ k ih =>
    have htwo : k + 1 + (k + 1) = k + k + 1 + 1 := by omega
    rw [htwo, List.replicate_succ, List.replicate_succ, checksum_cons, checksum_cons, BitVec.xor_assoc,
      BitVec.xor_self, BitVec.xor_zero, ih]

/-- The occurrences of a byte can be moved to the front of the payload. -/
theorem checksum_split (seed b : Byte) (p : List Byte) :
    checksum seed p = checksum (checksum seed (List.replicate (p.count b) b)) (p.filter fun x => x ≠ b) := by
  have hperm : (p.filter (· = b) ++ p.filter fun x => x ≠ b).Perm p := by
    simpa only [decide_not] using List.filter_append_perm (fun x => decide (x = b)) p
  rw [← checksum_perm seed hperm, checksum_append, List.filter_eq]

/-- Settles O10: the fold is the definition, and order and pairs go by `checksum_perm` and `checksum_split`. -/
theorem checksumIgnoresOrderAndPairs : Obligations.ChecksumIgnoresOrderAndPairs := by
  refine ⟨fun _ _ => rfl, fun seed _ _ => checksum_perm seed, fun seed b p hcount => ?_, fun seed fill p => ?_⟩
  · rw [checksum_split seed b p, checksum_replicate_of_even (Nat.even_iff.mpr hcount)]
  · rw [checksum_append, checksum_replicate_of_even (by decide)]

/-! ### The three parts of a frame (40_frame_codec.md R102 to R112) -/

section
variable (c : Config) (block : Byte) (d : Bytes16) (s : StepId)

@[simp] theorem header_length : (header c s).length = 8 := rfl

theorem frame_eq : frame c block d s = header c s ++ (payload c block d s ++ check c block d s) :=
  List.append_assoc _ _ _

theorem frame_take_header : (frame c block d s).take 8 = header c s := by
  rw [frame_eq, List.take_left' (header_length c s)]

theorem frame_drop_header : (frame c block d s).drop 8 = payload c block d s ++ check c block d s := by
  rw [frame_eq, List.drop_left' (header_length c s)]

/-- `N(s) = 8 + len(payload(s)) + len(check(s))` (R111). -/
theorem frameLen_eq : frameLen s = 8 + (payload c block d s).length + (check c block d s).length := by
  rw [← frame_length c block d s, frame, List.length_append, List.length_append, header_length]

variable {c block d s}

theorem header_of_source (h : c.const = Constants.source) :
    header c s = [0xAA, 0xBB, c.len[s.num], 0x00, 0x00, 0x00, c.group[s.num], c.code[s.num]] := by
  rw [header, h]; rfl

variable {i : BitVec 5}

theorem some_frameByte (h : i.toNat < frameLen s) :
    some (frameByte c block d s i) = (frame c block d s)[i.toNat]? := by
  rw [frameByte_eq_getElem c block d s i h, List.getElem?_eq_getElem]

theorem frameByte_of_header {x : Byte} (h : (header c s)[i.toNat]? = some x) : frameByte c block d s i = x := by
  obtain ⟨hi, -⟩ := List.getElem?_eq_some_iff.mp h
  rw [frameByte, frame_eq, List.getElem?_append_left hi, h, Option.getD_some]

theorem some_frameByte_of_header_le (h : i.toNat < frameLen s) (h8 : 8 ≤ i.toNat) :
    some (frameByte c block d s i) = (payload c block d s ++ check c block d s)[i.toNat - 8]? := by
  rw [some_frameByte h, frame_eq, List.getElem?_append_right (by simpa using h8), header_length]

end

/-- Settles O11: the first eight bytes are `header`. -/
theorem framesBeginWithTheHeader : Obligations.FramesBeginWithTheHeader := fun c block d s =>
  ⟨frame_take_header c block d s, fun h => (frame_take_header c block d s).trans (header_of_source h)⟩

/-- Settles O12: what follows the header is payload and check byte, step by step; the FILL bytes of read-1 cancel in
its check byte (R107). -/
theorem payloadAndCheckOfTheEightFrames : Obligations.PayloadAndCheckOfTheEightFrames := by
  intro c block d h
  have hfill : fill6 c = [0xFF, 0xFF, 0xFF, 0xFF, 0xFF, 0xFF] := by rw [fill6, h]; rfl
  simp only [frame_drop_header]
  refine ⟨rfl, rfl, rfl, ?confirm, ?read1, ?read2, ?write1, ?write2⟩
  case confirm => rw [payload, check, payload, h]; rfl
  case read1 => rw [payload, check, payload, checksum_cons, checksum_fill6, hfill, h]; rfl
  case read2 => rw [payload, check, payload, h]; rfl
  case write1 => rw [payload, check, hfill, h]; rfl
  case write2 => rw [payload, check, payload, h]; rfl

/-- Settles O13: the formula is the lengths of the three parts, the table is read off step by step. -/
theorem frameAndResponseLengths : Obligations.FrameAndResponseLengths := by
  refine ⟨fun c block d s => ⟨frameLen_eq c block d s, frame_length c block d s⟩, fun c block d h => ?_⟩
  have hexpected (s : StepId) : c.expected s = Constants.source.expected[s.num] := by rw [Config.expected, h]
  simp only [List.map_cons, List.map_nil, hexpected, payload, Vector.length_toList]
  rfl

/-- Settles O14: offsets 0 to 7 are bytes of the header, those above are bytes of the payload or the check byte. -/
theorem frameByteByOffset : Obligations.FrameByteByOffset := by
  intro c block d s i hsource hi
  have hheader (x : Byte)
      (h : [0xAA, 0xBB, c.len[s.num], 0x00, 0x00, 0x00, c.group[s.num], c.code[s.num]][i.toNat]? = some x) :
      frameByte c block d s i = x := frameByte_of_header (by rw [header_of_source hsource, h])
  refine ⟨some_frameByte hi, ?sync0, ?sync1, ?len, ?zeros, ?group, ?code, fun h8 hP => ?payload, fun hP => ?check⟩
  case payload =>
    rw [some_frameByte_of_header_le hi h8, List.getElem?_append_left (by omega)]
  case check =>
    have hzero : i.toNat - 8 - (payload c block d s).length = 0 := by omega
    rw [some_frameByte_of_header_le hi (by omega), List.getElem?_append_right (by omega), hzero]
  case zeros => rintro (rfl | rfl | rfl) <;> exact hheader _ rfl
  case sync0 | sync1 | len | group | code => rintro rfl; exact hheader _ rfl

end Machine
end Sys2Proof

namespace Sys2Proof
namespace Machine

/-! ### The bytes after the first marker (41_receiver_parser.md R143, R147, R148) -/

theorem padded_nil : padded [] = zero16 := by
  ext1 k hk
  rw [padded_getElem, Vector.getElem_replicate]
  rfl

/-- A byte stored right behind the bytes of a buffer extends them. -/
theorem padded_setIfInBounds (l : List Byte) (b : Byte) :
    (padded l).setIfInBounds l.length b = padded (l ++ [b]) := by
  ext1 k hk
  rw [Vector.getElem_setIfInBounds hk, padded_getElem, padded_getElem]
  rcases lt_trichotomy k l.length with hlt | rfl | hgt
  · rw [if_neg (by omega), List.getD_append _ _ _ _ hlt]
  · simp
  · rw [if_neg (by omega), List.getD_eq_default _ _ (by omega), List.getD_eq_default _ _ (by simp; omega)]

theorem afterMarker_of_marker (rest : List Byte) : afterMarker (2 :: 0 :: rest) = some rest := rfl

theorem afterMarker_of_not_marker {a b : Byte} (h : ¬(a = 2 ∧ b = 0)) (rest : List Byte) :
    afterMarker (a :: b :: rest) = afterMarker (b :: rest) := if_neg h

/-- Behind the first marker every further byte is data, a second marker included. -/
theorem afterMarker_append {l rest : List Byte} (h : afterMarker l = some rest) (m : List Byte) :
    afterMarker (l ++ m) = some (rest ++ m) := by
  induction l using afterMarker.induct with
  | case1 => cases h
  | case2 a => cases h
  | case3 a b tail hmarker =>
    obtain ⟨rfl, rfl⟩ := hmarker
    cases h
    rfl
  | case4 a b tail hne ih =>
    rw [afterMarker_of_not_marker hne] at h
    exact (afterMarker_of_not_marker hne _).trans (ih h)

/-- One more byte completes the first marker when it is 0 and follows a 2. -/
theorem afterMarker_concat {l : List Byte} (h : afterMarker l = none) (x : Byte) :
    afterMarker (l ++ [x]) = if l.getLast? = some 2 ∧ x = 0 then some [] else none := by
  induction l using afterMarker.induct with
  | case1 => rfl
  | case2 a => simp [afterMarker]
  | case3 a b tail hmarker =>
    obtain ⟨rfl, rfl⟩ := hmarker
    cases h
  | case4 a b tail hne ih =>
    rw [afterMarker_of_not_marker hne] at h
    rw [List.getLast?_cons_cons, ← ih h]
    exact afterMarker_of_not_marker hne _

/-! ### The parser over a response (41_receiver_parser.md R142 to R148) -/

/-- What the parser holds after the bytes `seen` of an armed response, with the source's marker bytes. -/
structure Parsed (capMax : Nat) (seen : List Byte) (s : State) : Prop where
  mk0 : s.cfg.const.mk0 = 2
  mk1 : s.cfg.const.mk1 = 0
  armed : armed s.step = true
  prev2 : s.prev2 = decide (seen.getLast? = some 2)
  cap : s.cap = (afterMarker seen).isSome
  marker : s.marker = (afterMarker seen).isSome
  capcnt : s.capcnt.toNat = (captured capMax seen).length
  rdata : s.rdata = padded (captured capMax seen)

theorem captured_of_some {l rest : List Byte} (h : afterMarker l = some rest) (m : Nat) :
    captured m l = rest.take m := by rw [captured, h, Option.getD_some]

theorem captured_of_none {l : List Byte} (h : afterMarker l = none) (m : Nat) : captured m l = [] := by
  rw [captured, h, Option.getD_none, List.take_nil]

section
variable {m : Nat} {seen : List Byte} {s : State} {b : Byte}

theorem Parsed.prev2_concat (h : Parsed m seen s) (b : Byte) :
    decide (b = s.cfg.const.mk0) = decide ((seen ++ [b]).getLast? = some 2) := by
  rw [h.mk0, decide_eq_decide, List.getLast?_concat, Option.some_inj]

/-- In capture mode the marker has been seen, and CAPCNT counts the bytes behind it up to CAPMAX. -/
theorem Parsed.exists_afterMarker (h : Parsed m seen s) (hcap : s.cap = true) :
    ∃ rest, afterMarker seen = some rest ∧ s.capcnt.toNat = min m rest.length := by
  obtain ⟨rest, hrest⟩ := Option.isSome_iff_exists.mp (h.cap.symm.trans hcap)
  exact ⟨rest, hrest, by rw [h.capcnt, captured_of_some hrest, List.length_take]⟩

/-- In capture mode below CAPMAX the byte is stored behind those kept so far (R145). -/
theorem Parsed.store (h : Parsed m seen s) (hm : m ≤ 16) (hcap : s.cap = true) (hlt : s.capcnt.toNat < m) :
    Parsed m (seen ++ [b])
      { s with rdata := s.rdata.setIfInBounds s.capcnt.toNat b, capcnt := s.capcnt + 1,
               prev2 := decide (b = s.cfg.const.mk0) } := by
  obtain ⟨rest, hrest, hlen⟩ := h.exists_afterMarker hcap
  have hnext := afterMarker_append hrest [b]
  have hkept : captured m (seen ++ [b]) = captured m seen ++ [b] := by
    rw [captured_of_some hnext, captured_of_some hrest, List.take_of_length_le (by simp; omega),
      List.take_of_length_le (by omega)]
  have hsucc : (s.capcnt + 1).toNat = s.capcnt.toNat + 1 := toNat_succ_of_lt (by omega)
  exact { h with
    prev2 := h.prev2_concat b
    cap := by rw [hnext]; exact hcap
    marker := by rw [hnext, h.marker, hrest]; rfl
    capcnt := by rw [hkept, hsucc, h.capcnt, List.length_append]; rfl
    rdata := by rw [hkept, h.capcnt, h.rdata, padded_setIfInBounds] }

/-- In capture mode at CAPMAX the byte is dropped (R146). -/
theorem Parsed.drop (h : Parsed m seen s) (hcap : s.cap = true) (hle : m ≤ s.capcnt.toNat) :
    Parsed m (seen ++ [b]) { s with prev2 := decide (b = s.cfg.const.mk0) } := by
  obtain ⟨rest, hrest, hlen⟩ := h.exists_afterMarker hcap
  have hnext := afterMarker_append hrest [b]
  have hkept : captured m (seen ++ [b]) = captured m seen := by
    rw [captured_of_some hnext, captured_of_some hrest, List.take_append_of_le_length (by omega)]
  exact { h with
    prev2 := h.prev2_concat b
    cap := by rw [hnext]; exact hcap
    marker := by rw [hnext, h.marker, hrest]; rfl
    capcnt := by rw [hkept]; exact h.capcnt
    rdata := by rw [hkept]; exact h.rdata }

/-- While the parser scans, no byte is kept; `mark` says whether this one ends a marker, which turns capture mode on (R143). -/
theorem Parsed.scan (h : Parsed m seen s) (hcap : s.cap = false) {mark : Bool}
    (hmark : mark = true ↔ s.prev2 = true ∧ b = s.cfg.const.mk1) :
    Parsed m (seen ++ [b])
      { s with cap := mark, marker := mark, prev2 := decide (b = s.cfg.const.mk0) } := by
  have hnone : afterMarker seen = none := Option.not_isSome_iff_eq_none.mp (by rw [← h.cap, hcap]; decide)
  have hnext : afterMarker (seen ++ [b]) = if mark = true then some [] else none := by
    rw [afterMarker_concat hnone]
    simp only [hmark, h.prev2, h.mk1, decide_eq_true_iff]
  have hkept : captured m (seen ++ [b]) = captured m seen := by
    rw [captured_of_none hnone, captured, hnext]
    cases mark <;> exact List.take_nil
  exact { h with
    prev2 := h.prev2_concat b
    cap := by rw [hnext]; cases mark <;> rfl
    marker := by rw [hnext]; cases mark <;> rfl
    capcnt := by rw [hkept]; exact h.capcnt
    rdata := by rw [hkept]; exact h.rdata }

/-- Every byte is stored, dropped or scanned, whichever the response up to it asks for. -/
theorem Parsed.parse (h : Parsed m seen s) (hm : m ≤ 16) (b : Byte) : Parsed m (seen ++ [b]) (parse m b s) := by
  rcases parse_cases m b s with
    ⟨hcap, hlt, heq⟩ | ⟨hcap, hle, heq⟩ | ⟨hcap, -, hprev, hb, heq⟩ | ⟨hcap, hno, heq⟩ <;> rw [heq]
  · exact h.store hm hcap hlt
  · exact h.drop hcap hle
  · exact h.scan hcap (by simp [hprev, hb])
  · have hnot : ¬(s.prev2 = true ∧ b = s.cfg.const.mk1) := by simpa [h.armed] using hno
    have hscan := h.scan hcap (mark := false) (by simpa using hnot)
    exact { hscan with cap := hcap ▸ hscan.cap, marker := by rw [h.marker, ← h.cap, hcap]; exact hscan.marker }

end

/-- A fresh armed response, of which nothing is parsed yet (42_session_commands.md R168, R170). -/
theorem parsed_nil {s : State} (m : Nat) (hmk0 : s.cfg.const.mk0 = 2) (hmk1 : s.cfg.const.mk1 = 0)
    (harmed : Machine.armed s.step = true) (hcap : s.cap = false) (hprev2 : s.prev2 = false)
    (hmarker : s.marker = false) (hcapcnt : s.capcnt = 0) (hrdata : s.rdata = zero16) : Parsed m [] s where
  mk0 := hmk0
  mk1 := hmk1
  armed := harmed
  prev2 := hprev2
  cap := hcap
  marker := hmarker
  capcnt := by rw [hcapcnt, captured_of_none rfl]; rfl
  rdata := by rw [hrdata, captured_of_none rfl, padded_nil]

/-- A response is parsed byte by byte, from what was seen of it before. -/
theorem Parsed.foldl {m : Nat} (hm : m ≤ 16) (resp : List Byte) {seen : List Byte} {s : State}
    (h : Parsed m seen s) : Parsed m (seen ++ resp) (resp.foldl (fun u b => Machine.parse m b u) s) := by
  induction resp generalizing seen s with
  | nil => rwa [List.append_nil]
  | cons b rest ih =>
    rw [List.append_cons]
    exact ih (h.parse hm b)

/-- Settles O30: `Parsed` holds of the fresh response, and each byte keeps it. -/
theorem parserKeepsTheBytesAfterTheFirstMarker : Obligations.ParserKeepsTheBytesAfterTheFirstMarker := by
  intro m s resp hmk0 hmk1 hm harmed hcap hprev2 hmarker hcapcnt hrdata
  have h : Parsed m resp _ :=
    (parsed_nil m hmk0 hmk1 harmed hcap hprev2 hmarker hcapcnt hrdata).foldl hm resp
  exact ⟨h.rdata, h.capcnt, h.marker, h.cap⟩

end Machine
end Sys2Proof

namespace Sys2Proof
namespace Machine

/-! ### The receive window (41_receiver_parser.md R134 to R139) -/

theorem State.rxReady_iff (s : State) : s.outputs.rxReady = true ↔ s.st = .rx ∧ s.elapsed ≤ s.cfg.deadlineTicks := by
  obtain ⟨-, -, -, -, hready, -⟩ := outputsOfTheState s
  exact hready

/-- Settles O17: `takesByte` is the conjunction of `rst = 0`, `rx_ready` and `rx_valid`. -/
theorem byteIsAcceptedInTheWindowAlone : Obligations.ByteIsAcceptedInTheWindowAlone := by
  intro s
  rw [State.takesByte, Bool.and_eq_true, Bool.and_eq_true, Bool.not_eq_true', s.rxReady_iff, and_assoc, and_assoc]

section
variable {s : State} (hst : s.st = .rx)
include hst

theorem exec_rx (i : Instr) : exec i s = rxCycle (rowOf i) s := by rw [exec_eq, commandCycle, hst]

theorem exec_rx_late (hlate : s.cfg.deadlineTicks < s.elapsed) (i : Instr) : exec i s = .next (finish .timeout s) := by
  rw [exec_rx hst, rxCycle, if_pos hlate]

theorem exec_rx_none (hwin : s.elapsed ≤ s.cfg.deadlineTicks) (hoffer : s.rxOffer = none) (i : Instr) :
    exec i s = .next { s with elapsed := s.elapsed + 1, doneR := false } := by
  rw [exec_rx hst, rxCycle, if_neg (Nat.not_lt.mpr hwin), hoffer]

end

/-- Settles O24: `finish(TIMEOUT)`, with the number of each step read off. -/
theorem pastTheDeadlineTheStepTimesOut : Obligations.PastTheDeadlineTheStepTimesOut := by
  intro i s hst hlate
  refine ⟨?_, (exec_rx_late hst hlate i).trans ?_⟩
  · rw [← Bool.not_eq_true, byteIsAcceptedInTheWindowAlone s]
    rintro ⟨-, -, hwin, -⟩
    exact absurd hlate (Nat.not_lt.mpr hwin)
  · cases hstep : s.step <;> simp only [finish, hstep] <;> rfl

/-- Settles O25: the window is open, and no byte is offered in it. -/
theorem windowCycleWithoutByteCountsOn : Obligations.WindowCycleWithoutByteCountsOn :=
  fun i s hst hwin hoffer => ⟨s.rxReady_iff.mpr ⟨hst, hwin⟩, exec_rx_none hst hwin hoffer i⟩

/-- Settles O26: the byte is not the step's last, so the cycle ends with `afterByte`. -/
theorem windowCycleTakesAndParsesOneByte : Obligations.WindowCycleTakesAndParsesOneByte := by
  intro i s b hst hwin hoffer hcnt
  rw [exec_rx_byte hst hwin hoffer, if_neg hcnt]

/-! ### The stream in an RX cycle (70_reset_and_hazards.md R238) -/

theorem State.nextStream_rx {s : State} (hst : s.st = .rx) : s.nextStream =
    { rxHeld := if s.takesByte then s.rxQueue.tail else s.rxQueue
      txHeld := s.stream.txHeld.drop s.input.drain } := by
  simp [State.nextStream, State.outputs, State.sent, hst]

/-- In the window the oldest byte is taken, if there is one. -/
theorem State.nextStream_rx_window {s : State} (hrst : s.input.rst = false) (hst : s.st = .rx)
    (hwin : s.elapsed ≤ s.cfg.deadlineTicks) :
    s.nextStream = { rxHeld := s.rxQueue.tail, txHeld := s.stream.txHeld.drop s.input.drain } := by
  rw [State.nextStream_rx hst]
  cases hqueue : s.rxQueue with
  | nil => rw [List.tail_nil, ite_self]
  | cons b rest =>
    have hoffer : s.rxOffer.isSome = true := by rw [State.rxOffer, hqueue]; rfl
    rw [if_pos ((byteIsAcceptedInTheWindowAlone s).mpr ⟨hrst, hst, hwin, hoffer⟩)]

/-- Past the deadline no byte is taken. -/
theorem State.nextStream_rx_late {s : State} (hst : s.st = .rx) (hlate : s.cfg.deadlineTicks < s.elapsed) :
    s.nextStream = { rxHeld := s.rxQueue, txHeld := s.stream.txHeld.drop s.input.drain } := by
  rw [State.nextStream_rx hst, (pastTheDeadlineTheStepTimesOut s.running s hst hlate).1,
    if_neg Bool.false_ne_true]

/-! ### Runs of quiet cycles -/

/-- While a command runs, a cycle without reset is a cycle of that command (42_session_commands.md R167). -/
theorem step_of_busy {s t : State} (hrst : s.input.rst = false) (hst : s.st ≠ .idle)
    (h : exec s.running s = .next t) : step s = .next (tick s t) := by
  have hcur : s.current = some s.running := by
    unfold State.current
    cases hs : s.st with
    | idle => exact absurd hs hst
    | tx | rx | fl => rfl
  simp [step, engineCycle, hrst, hcur, h]

theorem runSteps_succ {s u : State} (h : step s = .next u) (n : Nat) : runSteps (n + 1) s = runSteps n u := by
  rw [runSteps, h]

theorem runSteps_add {m : Nat} {s u : State} (h : runSteps m s = .next u) (n : Nat) :
    runSteps (m + n) s = runSteps n u := by
  induction m generalizing s with
  | zero => cases h; rw [Nat.zero_add]
  | succ m ih =>
    rw [runSteps] at h
    split at h
    · rename_i v hv
      rw [Nat.add_right_comm, runSteps_succ hv, ih h]
    · cases h
    · cases h

section
variable {s : State} {plan : List CycleInput} (h : s.script = .quiet :: plan)
include h

theorem State.rst_of_quiet : s.input.rst = false := by rw [s.input_script _ _ h]; rfl

theorem State.drain_of_quiet : s.input.drain = 0 := by rw [s.input_script _ _ h]; rfl

theorem State.rxQueue_of_quiet : s.rxQueue = s.stream.rxHeld := by
  rw [State.rxQueue, s.input_script _ _ h]
  exact List.append_nil _

end

/-! ### A response that stays too short (41_receiver_parser.md R135, R141) -/

/-- A step waits for more bytes than the stream holds. -/
structure Starved (s : State) : Prop where
  inv : Inv s
  rx : s.st = .rx
  few : s.cnt.toNat + s.stream.rxHeld.length < s.cfg.expected s.step

/-- `u` is `n` window cycles after `s` in the same step, each of which took a byte while there was one. -/
structure Waited (n : Nat) (s u : State) : Prop where
  op : u.op = s.op
  step : u.step = s.step
  cfg : u.cfg = s.cfg
  elapsed : u.elapsed = s.elapsed + n
  rxHeld : u.stream.rxHeld = s.stream.rxHeld.drop n
  txHeld : u.stream.txHeld = s.stream.txHeld

theorem Waited.refl (s : State) : Waited 0 s s := ⟨rfl, rfl, rfl, rfl, rfl, rfl⟩

theorem Waited.trans {m n : Nat} {s u v : State} (h : Waited m s u) (h' : Waited n u v) : Waited (m + n) s v where
  op := h'.op.trans h.op
  step := h'.step.trans h.step
  cfg := h'.cfg.trans h.cfg
  elapsed := by rw [h'.elapsed, h.elapsed, Nat.add_assoc]
  rxHeld := by rw [h'.rxHeld, h.rxHeld, List.drop_drop]
  txHeld := h'.txHeld.trans h.txHeld

/-- A window cycle of a starved step does not complete it. -/
theorem Starved.exec {s : State} (h : Starved s) (hwin : s.elapsed ≤ s.cfg.deadlineTicks)
    (hqueue : s.rxQueue = s.stream.rxHeld) (i : Instr) :
    ∃ t, exec i s = .next t ∧ t.st = s.st ∧ t.op = s.op ∧ t.step = s.step ∧ t.cfg = s.cfg ∧
      t.elapsed = s.elapsed + 1 ∧ t.cnt.toNat + s.stream.rxHeld.tail.length < s.cfg.expected s.step := by
  have hfew := h.few
  have hoffer : s.rxOffer = s.stream.rxHeld.head? := by rw [State.rxOffer, hqueue]
  cases hheld : s.stream.rxHeld with
  | nil =>
    rw [hheld] at hoffer hfew
    exact ⟨_, exec_rx_none h.rx hwin hoffer i, rfl, rfl, rfl, rfl, rfl, hfew⟩
  | cons b rest =>
    rw [hheld] at hoffer hfew
    rw [List.length_cons] at hfew
    have hlt := Config.expected_lt h.inv.const_legal s.step
    have hsucc : (s.cnt + 1).toNat = s.cnt.toNat + 1 := toNat_succ_of_lt (by omega)
    refine ⟨_, windowCycleTakesAndParsesOneByte i s b h.rx hwin hoffer (by omega), rfl, rfl, rfl, rfl, rfl, ?_⟩
    change (s.cnt + 1).toNat + rest.length < _
    omega

theorem Starved.step {s : State} (h : Starved s) (hwin : s.elapsed ≤ s.cfg.deadlineTicks) {plan : List CycleInput}
    (hquiet : s.script = .quiet :: plan) :
    ∃ u, step s = .next u ∧ Starved u ∧ Waited 1 s u ∧ u.script = plan := by
  have hrst := State.rst_of_quiet hquiet
  have hqueue := State.rxQueue_of_quiet hquiet
  obtain ⟨t, ht, hst, hop, hstep, hcfg, helapsed, hfew⟩ := h.exec hwin hqueue s.running
  have hcycle : Machine.step s = .next (tick s t) := step_of_busy hrst (by simp [h.rx]) ht
  have hstream : s.nextStream = { rxHeld := s.stream.rxHeld.tail, txHeld := s.stream.txHeld } := by
    rw [State.nextStream_rx_window hrst h.rx hwin, hqueue, State.drain_of_quiet hquiet, List.drop_zero]
  refine ⟨_, hcycle, ⟨everyStepKeepsTheInvariant s _ h.inv hcycle, hst.trans h.rx, ?_⟩,
    ⟨hop, hstep, hcfg, helapsed, ?_, ?_⟩, ?_⟩
  · rwa [tick_stream, hstream, tick_cnt, tick_cfg, tick_step, hcfg, hstep]
  · rw [tick_stream, hstream, List.drop_one]
  · rw [tick_stream, hstream]
  · rw [tick_script, hquiet, List.tail_cons]

/-- The same over a run of quiet cycles that stays in the window. -/
theorem Starved.run {n : Nat} {s : State} (h : Starved s) (hwin : s.elapsed + n ≤ s.cfg.deadlineTicks + 1)
    {plan : List CycleInput} (hquiet : s.script = List.replicate n .quiet ++ plan) :
    ∃ u, runSteps n s = .next u ∧ Starved u ∧ Waited n s u ∧ u.script = plan := by
  induction n generalizing s with
  | zero => exact ⟨s, rfl, h, .refl s, hquiet⟩
  | succ n ih =>
    obtain ⟨u, hstep, hu, hwait, hscript⟩ := h.step (by omega) hquiet
    have helapsed := hwait.elapsed
    obtain ⟨v, hrun, hv, hwait', hplan⟩ := ih hu (by rw [hwait.cfg]; omega) hscript
    exact ⟨v, (runSteps_succ hstep n).trans hrun, hv, Nat.add_comm 1 n ▸ hwait.trans hwait', hplan⟩

/-- Settles O46: all cycles but one pass in the window, and the one past the deadline times the step out. -/
theorem tooFewBytesTimeOutAfterTheWindow : Obligations.TooFewBytesTimeOutAfterTheWindow := by
  intro s plan n hinv hst hn hquiet hfew
  have hle := hinv.elapsed_le
  obtain ⟨k, rfl⟩ : ∃ k, n = k + 1 := ⟨n - 1, by omega⟩
  rw [List.replicate_succ', List.append_assoc] at hquiet
  obtain ⟨u, hrun, hu, hwait, hscript⟩ := Starved.run ⟨hinv, hst, hfew⟩ (by omega) hquiet
  have hlate : u.cfg.deadlineTicks < u.elapsed := by rw [hwait.cfg, hwait.elapsed]; omega
  have hend : step u = .next (tick u _) := step_of_busy (State.rst_of_quiet hscript) (by simp [hu.rx])
    (pastTheDeadlineTheStepTimesOut u.running u hu.rx hlate).2
  refine ⟨_, (runSteps_add hrun 1).trans (runSteps_succ hend 0), rfl, rfl, rfl, hwait.op, ?_, rfl, rfl, rfl, ?_, ?_⟩
  · rw [← hwait.step]; rfl
  · rw [tick_script, hscript]; rfl
  · rw [tick_stream, State.nextStream_rx_late hu.rx hlate, State.rxQueue_of_quiet hscript, hwait.rxHeld, hwait.txHeld,
      State.drain_of_quiet hscript, List.drop_zero, Nat.add_sub_cancel]

end Machine
end Sys2Proof

namespace Sys2Proof
namespace Machine

/-! ### One cycle of a command, by the sequencer's state (42_session_commands.md R163) -/

/-- In IDLE an instruction is the accept of its command (R168). -/
theorem exec_idle {s : State} (hst : s.st = .idle) (i : Instr) :
    exec i s = .next (accept (rowOf i) i.block i.data s) := by rw [exec_eq, commandCycle, hst]

theorem exec_tx {s : State} (hst : s.st = .tx) (i : Instr) : exec i s = .next (txCycle s) := by
  rw [exec_eq, commandCycle, hst]

theorem exec_fl {s : State} (hst : s.st = .fl) (i : Instr) : exec i s = .next (finish .ok s) := by
  rw [exec_eq, commandCycle, hst]

/-- A command with steps begins with the frame of `FIRST(OP)` (R168). -/
theorem exec_idle_send {s : State} (hst : s.st = .idle) {i : Instr} {first : StepId}
    (h : (rowOf i).start = .send first) :
    exec i s = .next { latch i.opcode i.block i.data s with result := .none, step := first, idx := 0, st := .tx } := by
  rw [exec_idle hst, accept, h, rowOf_op]

/-- A reserved code ends in its accept cycle, and IDLE is not left (R185). -/
theorem exec_idle_illegal {s : State} (hst : s.st = .idle) {i : Instr} (h : (rowOf i).start = .illegal) :
    exec i s = .next { latch i.opcode i.block i.data s with result := .illegal, doneR := true } := by
  rw [exec_idle hst, accept, h, rowOf_op, latch, hst]
  rfl

/-! ### The end of a receive step (42_session_commands.md R173, R174) -/

section
variable {k : CommandRow} {s : State}

theorem stepComplete_of_no_last (h : k.last = none) : stepComplete k s = .fault (.noLastStep k.op) := by
  rw [stepComplete, h]

theorem stepComplete_of_last (h : k.last = some s.step) : stepComplete k s = .next (finish .ok s) := by
  simp only [stepComplete, h, if_true]

theorem stepComplete_of_not_last {last : StepId} (h : k.last = some last) (hne : s.step ≠ last) :
    stepComplete k s = .next { s with step := s.step.succ, idx := 0, st := .tx, doneR := false } := by
  simp only [stepComplete, h, if_neg hne]

end

/-- The byte that completes a step, whatever the command (41_receiver_parser.md R137). -/
theorem exec_rx_complete {i : Instr} {s : State} {b : Byte} (hst : s.st = .rx) (hwin : s.elapsed ≤ s.cfg.deadlineTicks)
    (hoffer : s.rxOffer = some b) (hcnt : s.cnt.toNat + 1 = s.cfg.expected s.step) :
    exec i s = stepComplete (rowOf i) (afterByte (capMaxOf s.cfg i.opcode) b s) := by
  rw [exec_rx_byte hst hwin hoffer, if_pos hcnt]

/-- The byte that completes the last step. -/
theorem exec_rx_last {i : Instr} {s : State} {b : Byte} (hst : s.st = .rx) (hwin : s.elapsed ≤ s.cfg.deadlineTicks)
    (hoffer : s.rxOffer = some b) (hcnt : s.cnt.toNat + 1 = s.cfg.expected s.step)
    (hlast : (rowOf i).last = some s.step) :
    exec i s = .next (finish .ok (afterByte (capMaxOf s.cfg i.opcode) b s)) := by
  rw [exec_rx_complete hst hwin hoffer hcnt]
  exact stepComplete_of_last hlast

/-- Settles O19: each of the five begins with the frame of its first step. -/
theorem stepCommandsLatchAndEnterTx : Obligations.StepCommandsLatchAndEnterTx := fun _ _ _ _ hst =>
  ⟨exec_idle_send hst rfl, exec_idle_send hst rfl, exec_idle_send hst rfl, exec_idle_send hst rfl,
    exec_idle_send hst rfl⟩

/-- Settles O20: outside TX and FL neither output is 1, and `finish(ILLEGAL)` leaves `st` in IDLE. -/
theorem reservedCodesEndIllegal : Obligations.ReservedCodesEndIllegal := by
  intro s b d hst
  refine ⟨?_, ?_, exec_idle_illegal hst rfl, exec_idle_illegal hst rfl, exec_idle_illegal hst rfl⟩ <;>
    simp [State.outputs, hst]

/-- Settles O21: the accept enters FL, and the FL cycle is `finish(OK)`. -/
theorem flushPulsesFlushAndEndsOk : Obligations.FlushPulsesFlushAndEndsOk := by
  refine ⟨fun s b d hst => exec_idle hst _, fun s b d hst => ⟨?_, ?_, ?_, exec_fl hst _⟩⟩ <;>
    simp [State.outputs, hst]

/-- Settles O23, by the two cases of a TX cycle: the last byte of the frame, or one before it. -/
theorem transmitCycleOffersOneByteAndAdvances : Obligations.TransmitCycleOffersOneByteAndAdvances := by
  intro i s hst hidx
  have hbyte : s.outputs.txData = frameByte s.cfg s.block s.wdata s.step s.idx := if_pos hst
  rw [hbyte, some_frameByte hidx, exec_tx hst]
  refine ⟨by simp [State.outputs, hst], rfl, by simp [State.outputs, hst], fun hlast => ?_, fun hmore => ?_⟩
  · rw [txCycle, if_pos (by omega)]
  · rw [txCycle, if_neg (by omega)]

/-- Settles O27: `step_complete` of a step that is not the last. -/
theorem completedStepStartsTheNext : Obligations.CompletedStepStartsTheNext := by
  intro i s b last hst hwin hoffer hcnt hlast hne
  rw [exec_rx_complete hst hwin hoffer hcnt]
  exact stepComplete_of_not_last ((rowOf_last i).trans hlast) hne

/-- Settles O28: `step_complete` of the last step, for each of the five commands. -/
theorem lastByteEndsTheCommandWithOk : Obligations.LastByteEndsTheCommandWithOk := by
  intro s x b d v hst hwin hoffer hcnt
  have hend {i : Instr} (h : (rowOf i).last = some s.step) := exec_rx_last hst hwin hoffer hcnt h
  exact ⟨fun h => hend (h ▸ rfl), fun h => hend (h ▸ rfl), fun h => hend (h ▸ rfl),
    fun h => ⟨hend (h ▸ rfl), hend (h ▸ rfl)⟩⟩

/-- Settles O29: `step_complete` of a command without LAST(OP). -/
theorem commandsWithoutStepsStopAtAStepEnd : Obligations.CommandsWithoutStepsStopAtAStepEnd := by
  intro i s b hst hwin hoffer hcnt hnone
  rw [exec_rx_complete hst hwin hoffer hcnt, ← rowOf_op]
  exact stepComplete_of_no_last ((rowOf_last i).trans hnone)

end Machine
end Sys2Proof

namespace Sys2Proof
namespace Machine

/-! ### One step of the machine, forwards (42_session_commands.md R163, R164, R166, R167) -/

section
variable {s : State}

theorem State.current_of_busy (hst : s.st ≠ .idle) : s.current = some s.running := by
  unfold State.current
  cases hs : s.st with
  | idle => exact absurd hs hst
  | tx | rx | fl => rfl

theorem State.current_of_idle (hst : s.st = .idle) : s.current = s.cmdOffer.map decode := by
  rw [State.current, hst]

theorem engineCycle_of_busy (hrst : s.input.rst = false) (hst : s.st ≠ .idle) :
    engineCycle s = exec s.running s := by
  simp [engineCycle, hrst, State.current_of_busy hst]

theorem step_of_reset (hrst : s.input.rst = true) : step s = .next (tick s (resetEngine s)) := by
  simp [step, engineCycle, hrst]

theorem step_of_no_offer (hrst : s.input.rst = false) (hst : s.st = .idle) (hoffer : s.cmdOffer = none) :
    step s = .next (tick s (idleCycle s)) := by
  simp [step, engineCycle, hrst, State.current_of_idle hst, hoffer]

theorem step_of_offer {t : State} {c : Command} (hrst : s.input.rst = false) (hst : s.st = .idle)
    (hoffer : s.cmdOffer = some c) (h : exec (decode c) s = .next t) : step s = .next (tick s t) := by
  simp [step, engineCycle, hrst, State.current_of_idle hst, hoffer, h]

/-- The accept of the command on the port, with the port's operands (R168). -/
theorem exec_idle_decode (hst : s.st = .idle) (c : Command) :
    exec (decode c) s = .next (accept (rowOf (decode c)) c.block c.data s) := by
  rw [exec_idle hst, decode, decodeOp_block, decodeOp_data]

theorem step_of_busy_fault {f : Fault} (hrst : s.input.rst = false) (hst : s.st ≠ .idle)
    (h : exec s.running s = .fault f) : step s = .fault f := by
  simp [step, engineCycle_of_busy hrst hst, h]

/-! ### The stream outside RX (70_reset_and_hazards.md R238) -/

theorem State.nextStream_idle (hst : s.st = .idle) : s.nextStream =
    { rxHeld := s.rxQueue, txHeld := s.stream.txHeld.drop s.input.drain } := by
  simp [State.nextStream, State.outputs, State.takesByte, State.sent, hst]

theorem State.nextStream_tx (hst : s.st = .tx) : s.nextStream =
    { rxHeld := s.rxQueue
      txHeld := (s.stream.txHeld ++ [frameByte s.cfg s.block s.wdata s.step s.idx]).drop s.input.drain } := by
  simp [State.nextStream, State.outputs, State.takesByte, State.sent, hst]

theorem State.nextStream_fl (hst : s.st = .fl) : s.nextStream = { rxHeld := [], txHeld := [] } := by
  simp [State.nextStream, State.outputs, hst]

end

/-- Settles O31, clause by clause from the forward rules of a step. -/
theorem stepRunsTheDecodedInstruction : Obligations.StepRunsTheDecodedInstruction :=
  ⟨fun _ _ _ hrst hst hoffer h => step_of_offer hrst hst hoffer h, fun _ _ hrst hst h => step_of_busy hrst hst h,
    fun _ _ hrst hst h => step_of_busy_fault hrst hst h, fun _ hrst hst hoffer => step_of_no_offer hrst hst hoffer⟩

/-- Settles O32: `idleCycle`, then the stream of an IDLE cycle. -/
theorem idleCycleChangesDoneAlone : Obligations.IdleCycleChangesDoneAlone := by
  intro s hrst hst hoffer
  refine ⟨by simp [State.outputs, hst], by simp [State.outputs, hst], by simp [State.outputs, hst], ?_⟩
  rw [step_of_no_offer hrst hst hoffer, tick, State.nextStream_idle hst]
  rfl

/-! ### The spec's cycle function (42_session_commands.md R163; 41_receiver_parser.md R138) -/

theorem accept_eq_refAccept (c : Command) (s : State) :
    accept (rowOf (decode c)) c.block c.data s = refAccept s c := by
  obtain ⟨hop, -, -, hstart⟩ := rowOf_decodeOp c.op c.block c.data
  rw [decode, accept, refAccept, hstart, hop]
  cases firstOf c.op with
  | some first => rfl
  | none => by_cases hflush : c.op = 5 <;> simp only [hflush, if_true, if_false] <;> rfl

theorem txCycle_eq_refTx (s : State) : txCycle s = refTx s := by
  have hpos := frameLen_pos s.step
  have hlast : s.idx.toNat + 1 = frameLen s.step ↔ s.idx.toNat = frameLen s.step - 1 := by omega
  simp only [txCycle, refTx, hlast]

/-- `step_complete` of the running command, by the latched code. -/
theorem stepComplete_running (s u : State) : stepComplete (rowOf s.running) u =
    match lastOf s.op with
    | none => .fault (.noLastStep s.op)
    | some last => if u.step = last then .next (finish .ok u)
      else .next { u with step := u.step.succ, idx := 0, st := .tx, doneR := false } := by
  obtain ⟨hop, hlast, -⟩ := rowOf_decodeOp s.op s.block s.wdata
  rw [← State.running] at hlast hop
  cases hof : lastOf s.op with
  | none => rw [stepComplete_of_no_last (hlast.trans hof), hop]
  | some last => simp only [stepComplete, hlast.trans hof]

/-- An RX cycle of the running command: a timeout, a cycle without a byte, or the one assignment of R138 for a byte. -/
theorem rxCycle_eq_refRx {s : State} (hst : s.st = .rx) : rxCycle (rowOf s.running) s = refRx s := by
  have hop : s.running.opcode = s.op := decodeOp_opcode s.op s.block s.wdata
  rw [← exec_rx hst]
  by_cases hlate : s.cfg.deadlineTicks < s.elapsed
  · rw [exec_rx_late hst hlate, refRx, if_pos hlate]
    rfl
  · have hwin : s.elapsed ≤ s.cfg.deadlineTicks := Nat.not_lt.mp hlate
    rw [refRx, if_neg hlate]
    cases hoffer : s.rxOffer with
    | none => exact exec_rx_none hst hwin hoffer s.running
    | some b =>
      rw [exec_rx_byte hst hwin hoffer, hop, stepComplete_running]
      rfl

theorem engineCycle_eq_cycleFunction (s : State) : engineCycle s = cycleFunction s := by
  unfold cycleFunction
  cases hrst : s.input.rst with
  | true => simp [engineCycle, hrst]
  | false =>
    have hbusy := engineCycle_of_busy hrst
    cases hst : s.st with
    | idle =>
      cases hoffer : s.cmdOffer with
      | none => simp [engineCycle, hrst, State.current_of_idle hst, hoffer, idleCycle, hst]
      | some c =>
        simp [engineCycle, hrst, State.current_of_idle hst, hoffer, exec_idle_decode hst, accept_eq_refAccept]
    | tx => rw [hbusy (by simp [hst]), exec_tx hst, txCycle_eq_refTx]; rfl
    | rx => rw [hbusy (by simp [hst]), exec_rx hst, rxCycle_eq_refRx hst]; rfl
    | fl => rw [hbusy (by simp [hst]), exec_fl hst]; rfl

/-- Settles O33: the engine's cycle is the cycle function, and `step` adds the same clock edge to both. -/
theorem stepIsTheSpecsCycleFunction : Obligations.StepIsTheSpecsCycleFunction := by
  intro s
  rw [← engineCycle_eq_cycleFunction]
  cases h : engineCycle s <;> simp only [step, h]

end Machine
end Sys2Proof

namespace Sys2Proof
namespace Machine

/-! ### Two runs whose responses differ in content alone (42_session_commands.md R174; 41_receiver_parser.md R149) -/

theorem SameButArriving.refl (i : CycleInput) : SameButArriving i i := ⟨rfl, rfl, rfl, rfl⟩

section
variable {α : Type} {R : α → α → Prop} {l m : List α} (h : List.Forall₂ R l m)
include h

theorem forall₂_headD {a : α} (ha : R a a) : R (l.headD a) (m.headD a) := by
  cases h with
  | nil => exact ha
  | cons hhead _ => exact hhead

theorem forall₂_tail : List.Forall₂ R l.tail m.tail := by
  cases h with
  | nil => exact .nil
  | cons _ htail => exact htail

end

section
variable {s t u v : State}

/-- Both plans say how this cycle goes on, or both are used up in the same cycle. -/
theorem SameButContent.input (h : SameButContent s t) : SameButArriving s.input t.input := by
  rw [State.input, State.input, h.cycle]
  exact forall₂_headD h.script (.refl _)

theorem SameButContent.rxQueue_length (h : SameButContent s t) : s.rxQueue.length = t.rxQueue.length := by
  rw [State.rxQueue, State.rxQueue, List.length_append, List.length_append, h.rxHeld, h.input.arrive]

theorem SameButContent.rxOffer_isSome (h : SameButContent s t) : s.rxOffer.isSome = t.rxOffer.isSome := by
  rw [Bool.eq_iff_iff, State.rxOffer, State.rxOffer, List.isSome_head?, List.isSome_head?, ← List.length_pos_iff,
    ← List.length_pos_iff, h.rxQueue_length]

theorem SameButContent.running (h : SameButContent s t) : s.running = t.running := by
  rw [State.running, State.running, h.op, h.block, h.wdata]

theorem SameButContent.sent (h : SameButContent s t) : s.sent = t.sent := by
  have hst := h.st
  by_cases htx : t.st = .tx <;> simp [State.sent, State.outputs, hst, htx, h.cfg, h.block, h.wdata, h.step, h.idx]

theorem SameButContent.takesByte (h : SameButContent s t) : s.takesByte = t.takesByte := by
  simp only [State.takesByte, State.outputs, h.input.rst, h.st, h.elapsed, h.cfg, h.rxOffer_isSome]

/-- The ports the stream looks at do not show what was parsed. -/
theorem SameButContent.nextStream (h : SameButContent s t) :
    s.nextStream.rxHeld.length = t.nextStream.rxHeld.length ∧ s.nextStream.txHeld = t.nextStream.txHeld := by
  have hflush : s.outputs.flush = t.outputs.flush := congrArg (fun st => decide (st = SeqState.fl)) h.st
  unfold State.nextStream
  rw [hflush, h.takesByte, h.sent, h.txHeld, h.input.drain]
  split
  · exact ⟨rfl, rfl⟩
  · refine ⟨?_, rfl⟩
    split
    · rw [List.length_tail, List.length_tail, h.rxQueue_length]
    · exact h.rxQueue_length

/-- The clock edge brings the streams and the plans on alike. -/
theorem SameButContent.tick (h : SameButContent s t) (he : SameButContent u v) :
    SameButContent (tick s u) (tick t v) :=
  { he with
    rxHeld := h.nextStream.1
    txHeld := h.nextStream.2
    script := forall₂_tail h.script
    cycle := congrArg (· + 1) h.cycle }

theorem SameButContent.resetEngine (h : SameButContent s t) : SameButContent (resetEngine s) (resetEngine t) :=
  { h with st := rfl, op := rfl, block := rfl, wdata := rfl, step := rfl, idx := rfl, cnt := rfl, elapsed := rfl,
           result := rfl, failStep := rfl, doneR := rfl }

theorem SameButContent.idleCycle (h : SameButContent s t) : SameButContent (idleCycle s) (idleCycle t) :=
  { h with doneR := rfl }

theorem SameButContent.finish (h : SameButContent s t) (r : Result) : SameButContent (finish r s) (finish r t) :=
  { h with
    st := rfl, result := rfl, doneR := rfl
    failStep := by rw [finish_failStep, finish_failStep, h.step, h.failStep] }

theorem SameButContent.accept (h : SameButContent s t) (k : CommandRow) (b : Byte) (d : Bytes16) :
    SameButContent (accept k b d s) (accept k b d t) := by
  have hlatch : SameButContent (latch k.op b d s) (latch k.op b d t) :=
    { h with op := rfl, block := rfl, wdata := rfl, failStep := rfl, doneR := rfl }
  unfold Machine.accept
  cases k.start with
  | send first => exact { hlatch with result := rfl, step := rfl, idx := rfl, st := rfl }
  | flush => exact { hlatch with result := rfl, st := rfl }
  | illegal => exact hlatch.finish .illegal

theorem SameButContent.txCycle (h : SameButContent s t) : SameButContent (txCycle s) (txCycle t) := by
  unfold Machine.txCycle
  rw [h.idx, h.step]
  split
  · exact { h with st := rfl, step := rfl, idx := rfl, cnt := rfl, elapsed := rfl, doneR := rfl }
  · exact { h with step := rfl, idx := rfl, doneR := rfl }

/-- Whatever the two bytes are, they count alike. -/
theorem SameButContent.afterByte (h : SameButContent s t) (m : Nat) (b c : Byte) :
    SameButContent (afterByte m b s) (afterByte m c t) :=
  { h with
    elapsed := congrArg (· + 1) h.elapsed
    cnt := congrArg (· + 1) h.cnt
    doneR := rfl }

/-- Which step is the last one does not depend on what was captured (42_session_commands.md R173, R174). -/
theorem SameButContent.stepComplete (h : SameButContent s t) {k : CommandRow} (hs : stepComplete k s = .next u) :
    ∃ v, stepComplete k t = .next v ∧ SameButContent u v := by
  cases hlast : k.last with
  | none =>
    rw [stepComplete_of_no_last hlast] at hs
    cases hs
  | some last =>
    by_cases heq : s.step = last
    · subst heq
      rw [stepComplete_of_last hlast] at hs
      cases hs
      exact ⟨_, stepComplete_of_last (h.step ▸ hlast), h.finish .ok⟩
    · rw [stepComplete_of_not_last hlast heq] at hs
      cases hs
      exact ⟨_, stepComplete_of_not_last hlast (h.step ▸ heq),
        { h with step := congrArg StepId.succ h.step, idx := rfl, st := rfl, doneR := rfl }⟩

/-- In RX the two engines see alike whether a byte is there, and answer alike (41_receiver_parser.md R138). -/
theorem SameButContent.exec_rx (h : SameButContent s t) (hst : s.st = .rx) {i : Instr} (hs : exec i s = .next u) :
    ∃ v, exec i t = .next v ∧ SameButContent u v := by
  have hst' : t.st = .rx := h.st ▸ hst
  have hoffer := h.rxOffer_isSome
  by_cases hlate : s.cfg.deadlineTicks < s.elapsed
  · rw [exec_rx_late hst hlate] at hs
    cases hs
    exact ⟨_, exec_rx_late hst' (h.cfg ▸ h.elapsed ▸ hlate) i, h.finish .timeout⟩
  have hwin : s.elapsed ≤ s.cfg.deadlineTicks := Nat.not_lt.mp hlate
  have hwin' : t.elapsed ≤ t.cfg.deadlineTicks := h.cfg ▸ h.elapsed ▸ hwin
  cases hb : s.rxOffer with
  | none =>
    rw [exec_rx_none hst hwin hb] at hs
    cases hs
    have hnone : t.rxOffer = none := by simpa [hb] using hoffer.symm
    exact ⟨_, exec_rx_none hst' hwin' hnone i, { h with elapsed := congrArg (· + 1) h.elapsed, doneR := rfl }⟩
  | some b =>
    obtain ⟨c, hc⟩ : ∃ c, t.rxOffer = some c := Option.isSome_iff_exists.mp (by rw [← hoffer, hb]; rfl)
    have hbyte := h.afterByte (capMaxOf s.cfg i.opcode) b c
    rw [exec_rx_byte hst hwin hb] at hs
    rw [exec_rx_byte hst' hwin' hc, ← h.cnt, ← h.cfg, ← h.step]
    split at hs
    · rename_i hcnt
      rw [if_pos hcnt]
      exact hbyte.stepComplete hs
    · rename_i hcnt
      rw [if_neg hcnt]
      cases hs
      exact ⟨_, rfl, hbyte⟩

/-- One cycle, by the cases of `step_next`: each part of it keeps the two states alike. -/
theorem sameButContent_step (h : SameButContent s t) (hstep : step s = .next u) :
    ∃ v, step t = .next v ∧ SameButContent u v := by
  have hin := h.input
  have hcmd : s.cmdOffer = t.cmdOffer := hin.cmd
  obtain ⟨u, rfl, hu⟩ := step_next hstep
  rcases hu with ⟨hr, rfl⟩ | ⟨hr, hs, ho, rfl⟩ | ⟨c, hr, hs, ho, rfl⟩ | ⟨hr, hs, rfl⟩ | ⟨hr, hs, hrx⟩ |
    ⟨hr, hs, rfl⟩ <;> rw [hin.rst] at hr
  · exact ⟨_, step_of_reset hr, h.tick h.resetEngine⟩
  all_goals have ht := h.st ▸ hs
  · exact ⟨_, step_of_no_offer hr ht (hcmd ▸ ho), h.tick h.idleCycle⟩
  · exact ⟨_, step_of_offer hr ht (hcmd ▸ ho) (exec_idle_decode ht c), h.tick (h.accept _ _ _)⟩
  · exact ⟨_, step_of_busy hr (by simp [ht]) (exec_tx ht _), h.tick h.txCycle⟩
  · obtain ⟨v, hv, huv⟩ := h.exec_rx hs ((exec_rx hs _).trans hrx)
    exact ⟨_, step_of_busy hr (by simp [ht]) (h.running ▸ hv), h.tick huv⟩
  · exact ⟨_, step_of_busy hr (by simp [ht]) (exec_fl ht _), h.tick (h.finish .ok)⟩

end

/-- Settles O44, by induction on the number of cycles. -/
theorem responseContentDecidesOnlyTheCapture : Obligations.ResponseContentDecidesOnlyTheCapture := by
  intro n
  induction n with
  | zero =>
    intro s t s' h hrun
    cases hrun
    exact ⟨t, rfl, h⟩
  | succ n ih =>
    intro s t s' h hrun
    rw [runSteps] at hrun
    split at hrun
    · rename_i u hu
      obtain ⟨v, hv, huv⟩ := sameButContent_step h hu
      obtain ⟨t', ht, h'⟩ := ih u v s' huv hrun
      exact ⟨t', (runSteps_succ hv n).trans ht, h'⟩
    · cases hrun
    · cases hrun

end Machine
end Sys2Proof

namespace Sys2Proof
namespace Machine

/-! ### The command port of a running command (42_session_commands.md R167) -/

/-- The machine with another plan of what comes in from outside. -/
def State.withPlan (s : State) (p : List CycleInput) : State := { s with script := p }

/-- The answer of a cycle, with another plan in the next state. -/
def underPlan (p : List CycleInput) : Host.Outcome State Fault Refusal → Host.Outcome State Fault Refusal
  | .next t => .next (t.withPlan p)
  | .fault f => .fault f
  | .refused r => .refused r

section
variable (s : State) (p : List CycleInput)

theorem txCycle_withPlan : txCycle (s.withPlan p) = (txCycle s).withPlan p := by
  unfold txCycle State.withPlan
  split <;> rfl

theorem stepComplete_withPlan (k : CommandRow) :
    stepComplete k (s.withPlan p) = underPlan p (stepComplete k s) := by
  cases hlast : k.last with
  | none => rw [stepComplete_of_no_last hlast, stepComplete_of_no_last hlast, underPlan]
  | some last =>
    by_cases heq : s.step = last
    · subst heq
      rw [stepComplete_of_last hlast, stepComplete_of_last (s := s.withPlan p) hlast]
      rfl
    · rw [stepComplete_of_not_last hlast heq, stepComplete_of_not_last (s := s.withPlan p) hlast heq]
      rfl

variable {s p}

/-- While a command runs, its cycle reads of what comes in the offered byte alone. -/
theorem exec_withPlan (hst : s.st ≠ .idle) (hoffer : (s.withPlan p).rxOffer = s.rxOffer) (i : Instr) :
    exec i (s.withPlan p) = underPlan p (exec i s) := by
  have hkeep : (s.withPlan p).st = s.st := rfl
  cases hs : s.st with
  | idle => exact absurd hs hst
  | tx =>
    rw [exec_tx hs, exec_tx (hkeep.trans hs), txCycle_withPlan, underPlan]
  | fl =>
    rw [exec_fl hs, exec_fl (hkeep.trans hs)]
    rfl
  | rx =>
    have hs' := hkeep.trans hs
    by_cases hlate : s.cfg.deadlineTicks < s.elapsed
    · rw [exec_rx_late hs hlate, exec_rx_late hs' hlate]
      rfl
    have hwin : s.elapsed ≤ s.cfg.deadlineTicks := Nat.not_lt.mp hlate
    cases hb : s.rxOffer with
    | none =>
      rw [exec_rx_none hs hwin hb, exec_rx_none hs' hwin (hoffer.trans hb)]
      rfl
    | some b =>
      rw [exec_rx_byte hs hwin hb, exec_rx_byte hs' hwin (hoffer.trans hb), apply_ite (underPlan p),
        ← stepComplete_withPlan]
      rfl

theorem engineCycle_withPlan (hst : s.st ≠ .idle) (hrst : (s.withPlan p).input.rst = s.input.rst)
    (hoffer : (s.withPlan p).rxOffer = s.rxOffer) : engineCycle (s.withPlan p) = underPlan p (engineCycle s) := by
  cases hr : s.input.rst with
  | true =>
    rw [engineCycle, engineCycle, if_pos hr, if_pos (hrst.trans hr)]
    rfl
  | false =>
    rw [engineCycle_of_busy hr hst, engineCycle_of_busy (hrst.trans hr) hst]
    exact exec_withPlan hst hoffer s.running

end

/-- Settles O41: the cycle answers the same under both plans, and the clock edge keeps the rest of the plan alone. -/
theorem runningCommandDoesNotSeeTheCommandPort : Obligations.RunningCommandDoesNotSeeTheCommandPort := by
  intro s i c plan hst
  have hcycle : engineCycle (s.withPlan ({ i with cmd := c } :: plan)) =
      underPlan ({ i with cmd := c } :: plan) (engineCycle (s.withPlan (i :: plan))) :=
    engineCycle_withPlan (s := s.withPlan (i :: plan)) hst rfl rfl
  change step (s.withPlan (i :: plan)) = step (s.withPlan ({ i with cmd := c } :: plan))
  rw [step, step, hcycle]
  cases engineCycle (s.withPlan (i :: plan)) <;> rfl

/-! ### `done_r` (42_session_commands.md R165) -/

/-- An accept ends a reserved code, in IDLE, and no other command. -/
theorem accept_done (c : Command) (s : State) :
    ((accept (rowOf (decode c)) c.block c.data s).doneR = true ↔ c.op = 0 ∨ c.op = 6 ∨ c.op = 7) ∧
    ((accept (rowOf (decode c)) c.block c.data s).doneR = true →
      (accept (rowOf (decode c)) c.block c.data s).st = .idle) := by
  rcases accept_decodeOp_cases c.op c.block c.data s with ⟨first, hfirst, heq⟩ | ⟨hop, heq⟩ | ⟨hop, heq⟩ <;>
    rw [decode, heq]
  · rcases firstOf_cases hfirst with ⟨hop, -⟩ | ⟨hop, -⟩ | ⟨hop, -⟩ | ⟨hop, -⟩ <;> simp [hop]
  · simp [hop]
  · exact ⟨iff_of_true rfl hop, fun _ => rfl⟩

/-- A cycle of a running command ends it, with `done_r = 1`, or goes on, with `done_r = 0`. -/
theorem rxCycle_done {k : CommandRow} {s t : State} (hst : s.st = .rx) (h : rxCycle k s = .next t) :
    t.doneR = true ↔ t.st = .idle := by
  rcases rxCycle_next h with ⟨-, rfl⟩ | ⟨-, -, rfl⟩ | ⟨b, -, -, -, rfl⟩ | ⟨b, -, -, -, -, rfl⟩ |
    ⟨b, last, -, -, -, -, -, rfl⟩ <;> simp [counted, hst]

theorem txCycle_done {s : State} (hst : s.st = .tx) : (txCycle s).doneR = true ↔ (txCycle s).st = .idle := by
  rcases txCycle_cases s with ⟨-, heq⟩ | ⟨-, heq⟩ <;> simp [heq, hst]

/-- Settles O40, by the cases of `step_next`. -/
theorem doneFollowsTheEndOfACommand : Obligations.DoneFollowsTheEndOfACommand := by
  intro s t hstep
  obtain ⟨u, rfl, hu⟩ := step_next hstep
  rw [tick_doneR, tick_st]
  rcases hu with ⟨hr, rfl⟩ | ⟨hr, hst, hoffer, rfl⟩ | ⟨c, hr, hst, hoffer, rfl⟩ | ⟨hr, hst, rfl⟩ | ⟨hr, hst, hrx⟩ |
    ⟨hr, hst, rfl⟩
  · simp [hr]
  · simp [hr, hst, hoffer]
  · obtain ⟨hdone, hidle⟩ := accept_done c s
    exact ⟨by simp [hr, hst, hoffer, hdone], hidle⟩
  · have hdone := txCycle_done hst
    exact ⟨by simp [hr, hst, hdone], hdone.mp⟩
  · have hdone := rxCycle_done hst hrx
    exact ⟨by simp [hr, hst, hdone], hdone.mp⟩
  · simp [hr, hst]

/-! ### The order of the steps (42_session_commands.md R162, R173) -/

/-- A step of a command that is not its last is followed by the step of the next number. -/
theorem RunsStep.num_succ {op : BitVec 3} {s last : StepId} (h : RunsStep op s) (hl : lastOf op = some last)
    (hne : s ≠ last) : s.succ.num.val = s.num.val + 1 := by
  obtain ⟨first, last', hf, hl', hfs, hsl⟩ := h
  obtain rfl : last' = last := Option.some.inj (hl'.symm.trans hl)
  refine StepId.num_succ fun hlast => hne (StepId.num_injective (le_antisymm hsl ?_))
  rw [hlast]
  exact Fin.le_last _

/-- Settles O42, by the cases of `step_next`. -/
theorem stepsRunInOrder : Obligations.StepsRunInOrder := by
  intro s t hinv hstep hrst hbusy
  obtain ⟨u, rfl, hu⟩ := step_next hstep
  simp only [tick_st, tick_step, tick_idx, tick_result]
  rcases hu with ⟨hr, -⟩ | ⟨-, hst, -⟩ | ⟨c, -, hst, -⟩ | ⟨-, hst, rfl⟩ | ⟨-, hst, hrx⟩ | ⟨-, hst, rfl⟩
  · simp [hrst] at hr
  · exact absurd hst hbusy
  · exact absurd hst hbusy
  · rcases txCycle_cases s with ⟨-, heq⟩ | ⟨-, heq⟩ <;> simp [heq, hst]
  · have hrun : RunsStep s.op s.step := hinv.step_range (.inr hst)
    have hlastOf := (rowOf_decodeOp s.op s.block s.wdata).2.1
    rw [← State.running] at hlastOf
    rcases rxCycle_next hrx with ⟨-, rfl⟩ | ⟨-, -, rfl⟩ | ⟨b, -, -, -, rfl⟩ | ⟨b, -, -, hcnt, hlast, rfl⟩ |
      ⟨b, last, -, -, hcnt, hlast, hne, rfl⟩
    · simp
    · simp [hst]
    · simp [hst, counted]
    · simp [counted, ← hlastOf, hlast, hcnt]
    · have hlast : lastOf s.op = some last := hlastOf.symm.trans hlast
      simp [hst, hcnt, hlast, Ne.symm hne, hrun.num_succ hlast hne]
  · simp [hst]

/-! ### FLUSH (42_session_commands.md R184) -/

/-- Settles O52: the accept, and then the FL cycle whatever comes in but reset. -/
theorem flushEmptiesTheStreamInTwoCycles : Obligations.FlushEmptiesTheStreamInTwoCycles := by
  intro s b d i plan hst hscript
  have hin := s.input_script _ _ hscript
  have haccept := step_of_offer (by rw [hin]; rfl) hst (by rw [State.cmdOffer, hin]; rfl) (exec_idle_decode hst _)
  rw [decode_encode] at haccept
  generalize hu : tick s _ = u at haccept
  have hfl : u.st = .fl := by rw [← hu]; rfl
  have hrest : u.script = { i with rst := false } :: plan := by rw [← hu, tick_script, hscript]; rfl
  have hcleared : u.op = 5 ∧ u.block = b ∧ u.wdata = d ∧ u.failStep = 0 ∧ u.marker = false ∧ u.capcnt = 0 ∧
      u.rdata = zero16 := by
    rw [← hu]
    exact ⟨rfl, encode_block _, rfl, rfl, rfl, rfl, rfl⟩
  obtain ⟨hop, hblock, hwdata, hfail, hmarker, hcapcnt, hrdata⟩ := hcleared
  have hend := step_of_busy (by rw [u.input_script _ _ hrest]) (by simp [hfl]) (exec_fl hfl u.running)
  refine ⟨_, (runSteps_succ haccept 1).trans (runSteps_succ hend 0), rfl, rfl, rfl, hop, hblock, hwdata, hfail, hmarker,
    hcapcnt, hrdata, ?_, State.nextStream_fl hfl⟩
  rw [tick_script, hrest, List.tail_cons]

end Machine
end Sys2Proof

namespace Sys2Proof
namespace Machine

/-! ### Every cycle of a reachable state answers (60_exceptions.md R204) -/

theorem stepComplete_answers {k : CommandRow} {last : StepId} (h : k.last = some last) (s : State) :
    ∃ t, stepComplete k s = .next t := by
  by_cases heq : s.step = last
  · exact ⟨_, stepComplete_of_last (heq ▸ h)⟩
  · exact ⟨_, stepComplete_of_not_last h heq⟩

/-- Only a step end of a command without LAST(OP) stops (log 13). -/
theorem exec_answers {s : State} {i : Instr} (h : s.st = .rx → ∃ last, (rowOf i).last = some last) :
    ∃ t, exec i s = .next t := by
  cases hst : s.st with
  | idle => exact ⟨_, exec_idle hst i⟩
  | tx => exact ⟨_, exec_tx hst i⟩
  | fl => exact ⟨_, exec_fl hst i⟩
  | rx =>
    by_cases hlate : s.cfg.deadlineTicks < s.elapsed
    · exact ⟨_, exec_rx_late hst hlate i⟩
    have hwin : s.elapsed ≤ s.cfg.deadlineTicks := Nat.not_lt.mp hlate
    cases hoffer : s.rxOffer with
    | none => exact ⟨_, exec_rx_none hst hwin hoffer i⟩
    | some b =>
      obtain ⟨last, hlast⟩ := h hst
      by_cases hcnt : s.cnt.toNat + 1 = s.cfg.expected s.step
      · rw [exec_rx_complete hst hwin hoffer hcnt]
        exact stepComplete_answers hlast _
      · exact ⟨_, windowCycleTakesAndParsesOneByte i s b hst hwin hoffer hcnt⟩

/-- A running command of a state that meets the invariant answers its next cycle, whatever comes in. -/
theorem Inv.step_answers {s : State} (h : Inv s) (hst : s.st ≠ .idle) : ∃ t, step s = .next t := by
  cases hrst : s.input.rst with
  | true => exact ⟨_, step_of_reset hrst⟩
  | false =>
    obtain ⟨t, ht⟩ := exec_answers (s := s) (i := s.running) fun hrx => by
      obtain ⟨-, last, -, hlast, -⟩ := h.step_range (.inr hrx)
      exact ⟨last, (rowOf_decodeOp s.op s.block s.wdata).2.1.trans hlast⟩
    exact ⟨_, step_of_busy hrst hst ht⟩

/-! ### The longest a running command can go on (42_session_commands.md R177; 70_reset_and_hazards.md R241, R242) -/

/-- The most cycles a step can take: the longest frame, the whole window, and the cycle of the timeout. -/
def stepCycles (c : Config) : Nat := 25 + c.deadlineTicks + 2

/-- How many steps of the command `op` follow the step `s`. -/
def stepsAfter (op : BitVec 3) (s : StepId) : Nat :=
  match lastOf op with
  | none => 0
  | some last => last.num.val - s.num.val

/-- A bound on the cycles until the running command has ended. -/
def cyclesLeft (s : State) : Nat :=
  match s.st with
  | .idle => 0
  | .fl => 1
  | .tx =>
    stepsAfter s.op s.step * stepCycles s.cfg + ((frameLen s.step - s.idx.toNat) + (s.cfg.deadlineTicks + 2))
  | .rx => stepsAfter s.op s.step * stepCycles s.cfg + (s.cfg.deadlineTicks + 2 - s.elapsed)

/-- No command has more than three steps (R161). -/
theorem RunsStep.stepsAfter_le {op : BitVec 3} {s : StepId} (h : RunsStep op s) : stepsAfter op s ≤ 2 := by
  obtain ⟨first, last, hf, hl, hfs, -⟩ := h
  rw [stepsAfter, hl]
  rcases firstOf_cases hf with ⟨-, rfl, hl'⟩ | ⟨-, rfl, hl'⟩ | ⟨-, rfl, hl'⟩ | ⟨-, rfl, hl'⟩ <;>
    cases hl'.symm.trans hl <;> simp [StepId.num] at hfs ⊢ <;> omega

theorem RunsStep.stepsAfter_succ {op : BitVec 3} {s last : StepId} (h : RunsStep op s) (hl : lastOf op = some last)
    (hne : s ≠ last) : stepsAfter op s = stepsAfter op s.succ + 1 := by
  have hnum := h.num_succ hl hne
  obtain ⟨-, last', -, hl', -, hle⟩ := h.succ hl hne
  obtain rfl : last' = last := Option.some.inj (hl'.symm.trans hl)
  simp only [stepsAfter, hl]
  omega

theorem cyclesLeft_of_idle {s : State} (hst : s.st = .idle) : cyclesLeft s = 0 := by rw [cyclesLeft, hst]

section
variable {s : State} (h : Inv s)
include h

theorem Inv.cyclesLeft_pos (hst : s.st ≠ .idle) : 0 < cyclesLeft s := by
  have helapsed := h.elapsed_le
  unfold cyclesLeft
  cases hs : s.st with
  | idle => exact absurd hs hst
  | tx | rx | fl => simp only; omega

theorem Inv.cyclesLeft_le : cyclesLeft s ≤ 3 * (25 + s.cfg.deadlineTicks + 2) := by
  have hlen := frameLen_le s.step
  have hsteps (hst : s.st = .tx ∨ s.st = .rx) : stepsAfter s.op s.step * stepCycles s.cfg ≤
      2 * (25 + s.cfg.deadlineTicks + 2) :=
    Nat.mul_le_mul_right _ (RunsStep.stepsAfter_le (h.step_range hst))
  unfold cyclesLeft
  cases hst : s.st with
  | idle | fl => simp only; omega
  | tx =>
    have := hsteps (.inl hst)
    simp only; omega
  | rx =>
    have := hsteps (.inr hst)
    simp only; omega

theorem Inv.cyclesLeft_txCycle (hst : s.st = .tx) : cyclesLeft (Machine.txCycle s) < cyclesLeft s := by
  have hidx := h.idx_lt hst
  have hlen := frameLen_le s.step
  rcases txCycle_cases s with ⟨-, heq⟩ | ⟨-, heq⟩ <;> rw [heq] <;> simp only [cyclesLeft, hst]
  · omega
  · have hsucc : (s.idx + 1).toNat = s.idx.toNat + 1 := toNat_succ_of_lt (by omega)
    omega

/-- A cycle of the window that goes on in it comes nearer to the deadline, and the next step's frame and window are
longer by no more than the step before it was allowed. -/
theorem Inv.cyclesLeft_rxCycle (hst : s.st = .rx) {t : State} (hrx : Machine.rxCycle (rowOf s.running) s = .next t) :
    cyclesLeft t < cyclesLeft s := by
  have hpos := h.cyclesLeft_pos (by simp [hst])
  rcases rxCycle_running_next hrx with ⟨-, rfl⟩ | ⟨hwin, rfl | ⟨b, -, ⟨-, rfl⟩ | ⟨-, rfl⟩ | ⟨last, hlast, hne, rfl⟩⟩⟩
  · rwa [cyclesLeft_of_idle rfl]
  · simp only [cyclesLeft, hst]
    omega
  · simp only [cyclesLeft, hst, Machine.afterByte]
    omega
  · rwa [cyclesLeft_of_idle rfl]
  · have hsteps := RunsStep.stepsAfter_succ (h.step_range (.inr hst)) hlast hne
    have hlen := frameLen_le s.step.succ
    simp only [cyclesLeft, hst, hsteps, Machine.afterByte, stepCycles, Nat.add_mul]
    omega

/-- Each cycle of a running command brings its end nearer, whatever comes in. -/
theorem Inv.progress (hst : s.st ≠ .idle) : ∃ t, step s = .next t ∧ cyclesLeft t < cyclesLeft s := by
  have hpos := h.cyclesLeft_pos hst
  obtain ⟨t, ht⟩ := h.step_answers hst
  refine ⟨t, ht, ?_⟩
  obtain ⟨u, rfl, hu⟩ := step_next ht
  change cyclesLeft u < cyclesLeft s
  rcases hu with ⟨-, rfl⟩ | ⟨-, hs, -⟩ | ⟨c, -, hs, -⟩ | ⟨-, hs, rfl⟩ | ⟨-, hs, hrx⟩ | ⟨-, hs, rfl⟩
  · rwa [cyclesLeft_of_idle rfl]
  · exact absurd hs hst
  · exact absurd hs hst
  · exact h.cyclesLeft_txCycle hs
  · exact h.cyclesLeft_rxCycle hs hrx
  · rwa [cyclesLeft_of_idle rfl]

end

/-- A running command has ended after at most `cyclesLeft` cycles. -/
theorem Inv.ends {m : Nat} {s : State} (h : Inv s) (hm : cyclesLeft s ≤ m) :
    ∃ n t, n ≤ m ∧ runSteps n s = .next t ∧ t.st = .idle := by
  induction m generalizing s with
  | zero =>
    refine ⟨0, s, le_rfl, rfl, ?_⟩
    by_contra hst
    exact absurd hm (Nat.not_le.mpr (h.cyclesLeft_pos hst))
  | succ m ih =>
    by_cases hst : s.st = .idle
    · exact ⟨0, s, Nat.zero_le _, rfl, hst⟩
    obtain ⟨t, ht, hlt⟩ := h.progress hst
    obtain ⟨n, v, hn, hrun, hv⟩ := ih (everyStepKeepsTheInvariant s t h ht) (by omega)
    exact ⟨n + 1, v, by omega, (runSteps_succ ht n).trans hrun, hv⟩

/-- Settles O47: `cyclesLeft` bounds the run, and three steps bound `cyclesLeft`. -/
theorem everyCommandEndsInBoundedTime : Obligations.EveryCommandEndsInBoundedTime :=
  fun _ h => h.ends h.cyclesLeft_le

end Machine
end Sys2Proof

namespace Sys2Proof
namespace Machine

/-! ### A frame is sent (42_session_commands.md R169, R170) -/

/-- The frame byte at `idx` leads what is left of the frame. -/
theorem frame_drop (c : Config) (b : Byte) (d : Bytes16) (s : StepId) (i : BitVec 5) (h : i.toNat < frameLen s) :
    (frame c b d s).drop i.toNat = frameByte c b d s i :: (frame c b d s).drop (i.toNat + 1) := by
  rw [frameByte_eq_getElem c b d s i h]
  exact List.drop_eq_getElem_cons (by rwa [frame_length])

/-- The state after a quiet TX cycle that does not end the frame. -/
def byteSent (s : State) (plan : List CycleInput) : State :=
  { s with
    idx := s.idx + 1
    doneR := false
    stream := { s.stream with txHeld := s.stream.txHeld ++ [frameByte s.cfg s.block s.wdata s.step s.idx] }
    script := plan
    cycle := s.cycle + 1 }

/-- The state in which the step's receive window opens, `n` quiet cycles on, in which the rest of the frame from byte
`idx` on was sent. -/
def windowOpen (s : State) (n : Nat) (plan : List CycleInput) : State :=
  { s with
    st := .rx, idx := BitVec.ofNat 5 (frameLen s.step - 1), cnt := 0, elapsed := 0, prev2 := false, cap := false
    doneR := false
    stream := { s.stream with txHeld := s.stream.txHeld ++ (frame s.cfg s.block s.wdata s.step).drop s.idx.toNat }
    script := plan
    cycle := s.cycle + n }

section
variable {s : State} {plan : List CycleInput}

/-- A quiet TX cycle: the stream takes the byte offered. -/
theorem step_tx_of_quiet (hst : s.st = .tx) (hquiet : s.script = .quiet :: plan) :
    step s = .next { txCycle s with
      stream := { s.stream with txHeld := s.stream.txHeld ++ [frameByte s.cfg s.block s.wdata s.step s.idx] }
      script := plan
      cycle := s.cycle + 1 } := by
  rw [step_of_busy (State.rst_of_quiet hquiet) (by simp [hst]) (exec_tx hst _), tick, State.nextStream_tx hst,
    State.rxQueue_of_quiet hquiet, State.drain_of_quiet hquiet, List.drop_zero, hquiet, List.tail_cons]

theorem step_tx_more (hst : s.st = .tx) (hquiet : s.script = .quiet :: plan)
    (hidx : s.idx.toNat + 1 ≠ frameLen s.step) :
    step s = .next (byteSent s plan) := by
  rw [step_tx_of_quiet hst hquiet, txCycle, if_neg hidx, byteSent]

theorem step_tx_last (hst : s.st = .tx) (hquiet : s.script = .quiet :: plan)
    (hidx : s.idx.toNat + 1 = frameLen s.step) :
    step s = .next (windowOpen s 1 plan) := by
  have hlast : s.idx = BitVec.ofNat 5 (frameLen s.step - 1) := by
    rw [← hidx, Nat.add_sub_cancel, BitVec.ofNat_toNat, BitVec.setWidth_eq]
  rw [step_tx_of_quiet hst hquiet, txCycle, if_pos hidx, windowOpen, frame_drop _ _ _ _ _ (by omega),
    List.drop_eq_nil_of_le (by rw [frame_length]; omega), ← hlast]

theorem windowOpen_byteSent (hidx : s.idx.toNat + 1 < frameLen s.step) (n : Nat) (plan' : List CycleInput) :
    windowOpen (byteSent s plan') n plan = windowOpen s (n + 1) plan := by
  have hlen := frameLen_le s.step
  have hsucc : (s.idx + 1).toNat = s.idx.toNat + 1 := toNat_succ_of_lt (by omega)
  simp only [windowOpen, byteSent, hsucc]
  rw [frame_drop _ _ _ _ _ (by omega), List.append_assoc, List.singleton_append, Nat.add_assoc, Nat.add_comm 1 n]

/-- The rest of a frame, from byte `idx` on, is sent in quiet cycles. -/
theorem run_tx {n : Nat} (hst : s.st = .tx) (hidx : s.idx.toNat + (n + 1) = frameLen s.step)
    (hquiet : s.script = List.replicate (n + 1) .quiet ++ plan) :
    runSteps (n + 1) s = .next (windowOpen s (n + 1) plan) := by
  induction n generalizing s with
  | zero => exact runSteps_succ (step_tx_last hst hquiet hidx) 0
  | succ n ih =>
    have hlen := frameLen_le s.step
    have hsucc : (s.idx + 1).toNat = s.idx.toNat + 1 := toNat_succ_of_lt (by omega)
    rw [runSteps_succ (step_tx_more hst hquiet (by omega)), ← windowOpen_byteSent (by omega)]
    refine ih hst ?_ rfl
    change (s.idx + 1).toNat + (n + 1) = frameLen s.step
    omega

/-- A whole frame, from its first byte on. -/
theorem run_frame (hst : s.st = .tx) (hidx : s.idx = 0)
    (hquiet : s.script = List.replicate (frameLen s.step) .quiet ++ plan) :
    runSteps (frameLen s.step) s = .next (windowOpen s (frameLen s.step) plan) := by
  obtain ⟨n, hn⟩ : ∃ n, frameLen s.step = n + 1 := ⟨frameLen s.step - 1, by have := frameLen_pos s.step; omega⟩
  rw [hn] at hquiet ⊢
  exact run_tx hst (by rw [hidx, hn]; exact Nat.zero_add _) hquiet

end

/-- Settles O45: the window opens when the whole frame is sent, and nothing was taken till then. -/
theorem frameIsSentWholeBeforeTheWindowOpens : Obligations.FrameIsSentWholeBeforeTheWindowOpens := by
  intro s plan hst hidx hquiet
  refine ⟨_, run_frame hst hidx hquiet, rfl, rfl, rfl, rfl, rfl, rfl, rfl, rfl, ?_⟩
  rw [windowOpen, hidx]
  rfl

end Machine
end Sys2Proof

namespace Sys2Proof
namespace Machine

/-! ### A response is received (41_receiver_parser.md R137, R138) -/

/-- The engine after the bytes of a response, before the step completes. -/
def receive (k : CommandRow) (r : List Byte) (s : State) : State := r.foldl (fun u b => counted k b u) s

/-- The state after a whole response, `n` cycles on, before the step completes. -/
def answered (k : CommandRow) (r rest : List Byte) (plan : List CycleInput) (s : State) : State :=
  { receive k r s with
    stream := { rxHeld := rest, txHeld := s.stream.txHeld }
    script := plan
    cycle := s.cycle + r.length }

theorem runSteps_one (s : State) : runSteps 1 s = step s := by
  rw [runSteps]
  cases step s <;> rfl

/-- A cycle that ends with `step_complete` ends with it after the clock edge too. -/
theorem step_of_stepComplete {k : CommandRow} {s u : State} (hrst : s.input.rst = false) (hst : s.st ≠ .idle)
    (h : exec s.running s = stepComplete k u) : step s = stepComplete k (tick s u) := by
  cases hlast : k.last with
  | none =>
    rw [stepComplete_of_no_last hlast] at h ⊢
    exact step_of_busy_fault hrst hst h
  | some last =>
    by_cases heq : u.step = last
    · subst heq
      rw [stepComplete_of_last hlast] at h
      exact (step_of_busy hrst hst h).trans (stepComplete_of_last (s := tick s u) hlast).symm
    · rw [stepComplete_of_not_last hlast heq] at h
      exact (step_of_busy hrst hst h).trans (stepComplete_of_not_last (s := tick s u) hlast heq).symm

/-- The parser does not look at the surroundings. -/
theorem counted_tick (k : CommandRow) (b : Byte) (s u : State) : counted k b (tick s u) = tick s (counted k b u) := by
  rw [counted_eq, counted_eq]
  rfl

theorem receive_tick (k : CommandRow) (r : List Byte) (s u : State) :
    receive k r (tick s u) = tick s (receive k r u) := by
  induction r generalizing u with
  | nil => rfl
  | cons b r ih => exact (congrArg (receive k r) (counted_tick k b s u)).trans (ih _)

section
variable {s : State} {b : Byte} {rest : List Byte} {plan : List CycleInput} (hst : s.st = .rx)
  (hwin : s.elapsed ≤ s.cfg.deadlineTicks) (hquiet : s.script = .quiet :: plan) (hheld : s.stream.rxHeld = b :: rest)
include hst hwin hquiet hheld

/-- A quiet window cycle that takes a byte which does not complete the step. -/
theorem step_rx_more (hcnt : s.cnt.toNat + 1 ≠ s.cfg.expected s.step) :
    step s = .next (tick s (counted (rowOf s.running) b s)) := by
  have hoffer : s.rxOffer = some b := by rw [State.rxOffer, State.rxQueue_of_quiet hquiet, hheld]; rfl
  rw [counted_eq, rowOf_capMax]
  exact step_of_busy (State.rst_of_quiet hquiet) (by simp [hst])
    (windowCycleTakesAndParsesOneByte s.running s b hst hwin hoffer hcnt)

/-- A quiet window cycle that takes the byte which completes the step. -/
theorem step_rx_last (hcnt : s.cnt.toNat + 1 = s.cfg.expected s.step) :
    step s = stepComplete (rowOf s.running) (tick s (counted (rowOf s.running) b s)) := by
  have hoffer : s.rxOffer = some b := by rw [State.rxOffer, State.rxQueue_of_quiet hquiet, hheld]; rfl
  rw [counted_eq, rowOf_capMax]
  exact step_of_stepComplete (State.rst_of_quiet hquiet) (by simp [hst]) (exec_rx_complete hst hwin hoffer hcnt)

theorem State.nextStream_rx_of_quiet : s.nextStream = { rxHeld := rest, txHeld := s.stream.txHeld } := by
  rw [State.nextStream_rx_window (State.rst_of_quiet hquiet) hst hwin, State.rxQueue_of_quiet hquiet, hheld,
    State.drain_of_quiet hquiet, List.tail_cons, List.drop_zero]

end

@[simp] theorem counted_st (k : CommandRow) (b : Byte) (s : State) : (counted k b s).st = s.st := parse_st _ b s
@[simp] theorem counted_step (k : CommandRow) (b : Byte) (s : State) : (counted k b s).step = s.step := parse_step _ b s
@[simp] theorem counted_cfg (k : CommandRow) (b : Byte) (s : State) : (counted k b s).cfg = s.cfg := parse_cfg _ b s
@[simp] theorem counted_cnt (k : CommandRow) (b : Byte) (s : State) : (counted k b s).cnt = s.cnt + 1 := rfl
@[simp] theorem counted_elapsed (k : CommandRow) (b : Byte) (s : State) : (counted k b s).elapsed = s.elapsed + 1 := rfl
@[simp] theorem counted_op (k : CommandRow) (b : Byte) (s : State) : (counted k b s).op = s.op := parse_op _ b s

/-- The constants of the running command are those of its code. -/
theorem rowOf_running_eq {s u : State} (h : u.op = s.op) : rowOf u.running = rowOf s.running :=
  rowOf_eq_of_opcode (by rw [State.running, State.running, decodeOp_opcode, decodeOp_opcode, h])

/-- The first byte of a response, and then the others. -/
theorem answered_cons {k : CommandRow} {b : Byte} {r rest : List Byte} {s : State} {plan : List CycleInput}
    (hstream : s.nextStream = { rxHeld := r ++ rest, txHeld := s.stream.txHeld }) :
    answered k r rest plan (tick s (counted k b s)) = answered k (b :: r) rest plan s := by
  rw [answered, receive_tick, tick_stream, tick_cycle, hstream, answered, List.length_cons, Nat.add_comm r.length 1,
    ← Nat.add_assoc]
  rfl

/-- A prompt response is taken byte by byte in the window, and its last byte completes the step. -/
theorem run_response {r rest : List Byte} {s : State} {plan : List CycleInput} (hst : s.st = .rx) (hr : r ≠ [])
    (hcnt : s.cnt.toNat + r.length = s.cfg.expected s.step) (hlt : s.cfg.expected s.step < 32)
    (hwin : s.elapsed + r.length ≤ s.cfg.deadlineTicks + 1) (hheld : s.stream.rxHeld = r ++ rest)
    (hquiet : s.script = List.replicate r.length .quiet ++ plan) :
    runSteps r.length s = stepComplete (rowOf s.running) (answered (rowOf s.running) r rest plan s) := by
  induction r generalizing s with
  | nil => exact absurd rfl hr
  | cons b r ih =>
    rw [List.length_cons] at hcnt hwin hquiet ⊢
    have hopen : s.elapsed ≤ s.cfg.deadlineTicks := by omega
    have hstream := State.nextStream_rx_of_quiet hst hopen hquiet hheld
    rw [← answered_cons hstream]
    by_cases hlast : r = []
    · subst hlast
      rw [List.length_nil, runSteps_one, step_rx_last hst hopen hquiet hheld hcnt, answered, tick, hstream, hquiet]
      rfl
    · have hpos : 0 < r.length := List.length_pos_iff.mpr hlast
      have hsucc : (s.cnt + 1).toNat = s.cnt.toNat + 1 := toNat_succ_of_lt (by omega)
      have hrow := rowOf_running_eq (u := tick s (counted (rowOf s.running) b s)) (counted_op _ b s)
      rw [runSteps_succ (step_rx_more hst hopen hquiet hheld (by omega)),
        ih (s := tick s _) (by simp [hst]) hlast ?_ (by simpa using hlt) ?_ (by simp [hstream])
          (by simp [hquiet, List.replicate_succ]), hrow]
      all_goals
        simp only [tick_cnt, tick_cfg, tick_step, tick_elapsed, counted_cnt, counted_cfg, counted_step, counted_elapsed]
        omega

end Machine
end Sys2Proof

namespace Sys2Proof
namespace Machine

/-! ### One step of a command: its frame out, its response in (42_session_commands.md R162) -/

/-- The step `stp` of the command `i` is running, and nothing has ended since its accept. -/
structure Running (i : Instr) (stp : StepId) (s : State) : Prop where
  op : s.op = i.opcode
  block : s.block = i.block
  wdata : s.wdata = i.data
  step : s.step = stp
  result : s.result = .none
  failStep : s.failStep = 0

/-- No byte of a response has been captured. -/
structure NothingCaptured (s : State) : Prop where
  rdata : s.rdata = zero16
  capcnt : s.capcnt = 0
  marker : s.marker = false

/-- The first byte of the step's frame is to be sent. -/
structure Sending (i : Instr) (stp : StepId) (s : State) : Prop extends Running i stp s, NothingCaptured s where
  st : s.st = .tx
  idx : s.idx = 0

/-- The configuration, the bytes the stream holds, and the plan. -/
structure Around (c : Config) (held sent : List Byte) (plan : List CycleInput) (s : State) : Prop where
  cfg : s.cfg = c
  stream : s.stream = { rxHeld := held, txHeld := sent }
  script : s.script = plan

theorem Running.counted {i : Instr} {stp : StepId} {s : State} (h : Running i stp s) (k : CommandRow) (b : Byte) :
    Running i stp (counted k b s) where
  op := (parse_op _ b s).trans h.op
  block := (parse_block _ b s).trans h.block
  wdata := (parse_wdata _ b s).trans h.wdata
  step := (parse_step _ b s).trans h.step
  result := (parse_result _ b s).trans h.result
  failStep := (parse_failStep _ b s).trans h.failStep

theorem Running.receive {i : Instr} {stp : StepId} {s : State} (h : Running i stp s) (k : CommandRow) (r : List Byte) :
    Running i stp (receive k r s) := by
  induction r generalizing s with
  | nil => exact h
  | cons b r ih => exact ih (h.counted k b)

theorem receive_cfg (k : CommandRow) (r : List Byte) (s : State) : (receive k r s).cfg = s.cfg := by
  induction r generalizing s with
  | nil => rfl
  | cons b r ih => exact (ih (Machine.counted k b s)).trans (counted_cfg k b s)

theorem Running.row {i : Instr} {stp : StepId} {s : State} (h : Running i stp s) : rowOf s.running = rowOf i :=
  rowOf_eq_of_opcode ((decodeOp_opcode s.op s.block s.wdata).trans h.op)

/-- In a step that is not armed the parser only looks at the bytes (41_receiver_parser.md R142). -/
theorem parse_of_not_armed {s : State} (harmed : armed s.step = false) (hcap : s.cap = false) (m : Nat) (b : Byte) :
    parse m b s = { s with prev2 := decide (b = s.cfg.const.mk0) } := by
  rcases parse_cases m b s with ⟨hc, -⟩ | ⟨hc, -⟩ | ⟨-, ha, -⟩ | ⟨-, -, heq⟩
  · simp [hcap] at hc
  · simp [hcap] at hc
  · simp [harmed] at ha
  · exact heq

theorem NothingCaptured.receive {s : State} (h : NothingCaptured s) (harmed : armed s.step = false)
    (hcap : s.cap = false) (k : CommandRow) (r : List Byte) : NothingCaptured (receive k r s) := by
  induction r generalizing s with
  | nil => exact h
  | cons b r ih =>
    have hbyte : NothingCaptured (counted k b s) ∧ (counted k b s).cap = false := by
      rw [counted, parse_of_not_armed harmed hcap]
      exact ⟨{ h with }, hcap⟩
    exact ih hbyte.1 ((congrArg armed (counted_step k b s)).trans harmed) hbyte.2

/-- In the armed step the engine holds what the parser makes of the response. -/
theorem Parsed.receive {k : CommandRow} {c : Config} (hmax : c.capMax k.capture ≤ 16) (r : List Byte) {seen : List Byte}
    {s : State} (hcfg : s.cfg = c) (h : Parsed (c.capMax k.capture) seen s) :
    Parsed (c.capMax k.capture) (seen ++ r) (receive k r s) := by
  induction r generalizing seen s with
  | nil => rwa [List.append_nil]
  | cons b r ih =>
    rw [List.append_cons]
    have hparse := h.parse hmax b
    rw [← hcfg] at hparse
    refine ih ((counted_cfg k b s).trans hcfg) ?_
    rw [← hcfg]
    exact { hparse with }

/-- `u` is the state in which the step's response `r` has been taken and `step_complete` comes. -/
structure Answered (i : Instr) (stp : StepId) (r : List Byte) (u : State) : Prop extends Running i stp u where
  not_armed : armed stp = false → NothingCaptured u
  parsed : armed stp = true → Parsed (u.cfg.capMax (rowOf i).capture) r u

/-- The window of a step opens with nothing of its response parsed, so what was captured when the whole response is in
is what the response holds. -/
theorem Sending.answered {i : Instr} {stp : StepId} {s : State} (h : Sending i stp s)
    (hsrc : s.cfg.const = Constants.source) (n : Nat) (r rest : List Byte) (plan plan' : List CycleInput) :
    Answered i stp r (answered (rowOf i) r rest plan (windowOpen s n plan')) := by
  have hopen : Running i stp (windowOpen s n plan') := { h.toRunning with }
  have hnothing : NothingCaptured (windowOpen s n plan') := { h.toNothingCaptured with }
  refine { hopen.receive (rowOf i) r with not_armed := fun harmed => ?_, parsed := fun harmed => ?_ }
  · have hkept := hnothing.receive (hopen.step ▸ harmed) rfl (rowOf i) r
    exact { hkept with }
  · have hmax : s.cfg.capMax (rowOf i).capture ≤ 16 :=
      rowOf_capMax s.cfg i ▸ capMaxOf_le (hsrc ▸ Constants.source_legal) _
    have hnil : Parsed (s.cfg.capMax (rowOf i).capture) [] (windowOpen s n plan') :=
      parsed_nil _ (congrArg Constants.mk0 hsrc) (congrArg Constants.mk1 hsrc) (hopen.step ▸ harmed) rfl rfl
        hnothing.marker hnothing.capcnt hnothing.rdata
    have hall := Parsed.receive (s := windowOpen s n plan') hmax r rfl hnil
    change Parsed ((receive (rowOf i) r (windowOpen s n plan')).cfg.capMax (rowOf i).capture) r _
    rw [receive_cfg]
    exact { hall with }

section
variable {i : Instr} {stp : StepId} {s : State} {c : Config} {r rest sent : List Byte} {plan : List CycleInput}
  {n : Nat}
  (hsrc : c.const = Constants.source) (hr : r.length = c.expected stp) (hn : n = frameLen stp + r.length)
  (hwin : r.length ≤ c.deadlineTicks + 1) (h : Sending i stp s)
  (ha : Around c (r ++ rest) sent (List.replicate n .quiet ++ plan) s)
include hsrc hr hn hwin h ha

/-- A step whose response is there comes to its end `N(step) + E(step)` cycles after its frame begins. -/
theorem Sending.exchange : ∃ u, runSteps n s = stepComplete (rowOf i) u ∧ Answered i stp r u ∧
    Around c rest (sent ++ frame c i.block i.data stp) plan u := by
  have hlegal : c.const.legal := hsrc ▸ Constants.source_legal
  have hpos := Config.expected_pos hlegal stp
  obtain ⟨hcfg, hstream, hscript⟩ := ha
  obtain rfl := h.step
  subst hcfg hn
  rw [List.replicate_add, List.append_assoc] at hscript
  have hframe := run_frame h.st h.idx hscript
  generalize hrest : List.replicate r.length .quiet ++ plan = plan' at hframe
  have hresponse := run_response (s := windowOpen s (frameLen s.step) plan') (rest := rest) (plan := plan) rfl
    (List.length_pos_iff.mp (hr ▸ hpos)) ((Nat.zero_add _).trans hr) (Config.expected_lt hlegal _)
    ((Nat.zero_add _).trans_le hwin) (congrArg Stream.rxHeld hstream) hrest.symm
  rw [show rowOf (windowOpen s (frameLen s.step) plan').running = rowOf i from h.row] at hresponse
  refine ⟨_, (runSteps_add hframe _).trans hresponse, h.answered hsrc _ r rest plan plan', ?_, ?_, rfl⟩
  · exact receive_cfg _ r _
  · simp only [Machine.answered, windowOpen, hstream, h.idx, h.block, h.wdata]
    rfl

/-- A step that is not the last: the next step's frame begins. -/
theorem Sending.next {last : StepId} (hlast : (rowOf i).last = some last) (hne : stp ≠ last)
    (harmed : armed stp = false) :
    ∃ u, runSteps n s = .next u ∧ Sending i stp.succ u ∧ Around c rest (sent ++ frame c i.block i.data stp) plan u := by
  obtain ⟨u, hrun, hu, hau⟩ := Sending.exchange hsrc hr hn hwin h ha
  refine ⟨_, hrun.trans (stepComplete_of_not_last hlast (hu.step ▸ hne)), ?_, { hau with }⟩
  exact { hu.toRunning, hu.not_armed harmed with step := congrArg StepId.succ hu.step, st := rfl, idx := rfl }

/-- The last step: the command ends with OK, and what was captured stays. -/
theorem Sending.last (hlast : (rowOf i).last = some stp) :
    ∃ u, runSteps n s = .next (finish .ok u) ∧ Answered i stp r u ∧
      Around c rest (sent ++ frame c i.block i.data stp) plan u := by
  obtain ⟨u, hrun, hu, hau⟩ := Sending.exchange hsrc hr hn hwin h ha
  exact ⟨u, hrun.trans (stepComplete_of_last (hu.step ▸ hlast)), hu, hau⟩

end

/-- The accept of a command with steps, offered in IDLE in a cycle in which nothing else comes in. -/
theorem step_accept {i : Instr} {first : StepId} {s : State} {plan : List CycleInput} (hst : s.st = .idle)
    (hstart : (rowOf i).start = .send first) (hscript : s.script = CycleInput.offer (encode i) :: plan) :
    ∃ u, step s = .next u ∧ Sending i first u ∧ Around s.cfg s.stream.rxHeld s.stream.txHeld plan u := by
  have hin := s.input_script _ _ hscript
  have hexec := exec_idle_send hst hstart
  rw [← exec_expand, ← decode_encode] at hexec
  refine ⟨_, step_of_offer (by rw [hin]; rfl) hst (by rw [State.cmdOffer, hin]; rfl) hexec, ?_, rfl, ?_, ?_⟩
  · exact { op := rfl, block := rfl, wdata := rfl, step := rfl, result := rfl, failStep := rfl, rdata := rfl,
            capcnt := rfl, marker := rfl, st := rfl, idx := rfl }
  · rw [tick_stream, State.nextStream_idle hst, State.rxQueue, hin]
    simp [CycleInput.offer]
  · rw [tick_script, hscript, List.tail_cons]

theorem expected_of_source {c : Config} (hsrc : c.const = Constants.source) (stp : StepId) :
    c.expected stp = Constants.source.expected[stp.num] := by rw [Config.expected, hsrc]

/-! ### Whole commands (42_session_commands.md R180 to R183; 70_reset_and_hazards.md R241) -/

/-- Settles O49: the accept, then the exchange of the one step. -/
theorem confirmCompletesWithoutCapture : Obligations.ConfirmCompletesWithoutCapture := by
  intro s b d r rest plan hsrc hst hscript hheld hr hwin
  have hlen := expected_of_source hsrc
  obtain ⟨s1, hstep, h1, ha1⟩ := step_accept hst rfl hscript
  rw [hheld] at ha1
  obtain ⟨u, hrun, hu, ha⟩ :=
    Sending.last hsrc (hr.trans (hlen .confirm).symm) (by rw [hr]; rfl) (by omega) h1 ha1 rfl
  obtain ⟨hrdata, hcapcnt, hmarker⟩ := hu.not_armed rfl
  exact ⟨_, (runSteps_succ hstep 24).trans hrun, rfl, rfl, rfl, hu.op, hu.block, hu.wdata, hu.failStep, hmarker,
    hcapcnt, hrdata, ha.cfg, ha.script, ha.stream⟩

/-- Settles O50: the response of read-1 is counted, and that of the armed read-2 parsed. -/
theorem readCompletesWithTheBlock : Obligations.ReadCompletesWithTheBlock := by
  intro s b d r1 r2 rest plan hsrc hst hscript hheld hr1 hr2 hwin
  have hlen := expected_of_source hsrc
  rw [show 61 = 26 + 35 from rfl, List.replicate_add, List.append_assoc] at hscript
  obtain ⟨s1, hstep, h1, ha1⟩ := step_accept hst rfl hscript
  rw [hheld, List.append_assoc] at ha1
  obtain ⟨s2, hrun1, h2, ha2⟩ :=
    Sending.next hsrc (hr1.trans (hlen .read1).symm) (by rw [hr1]; rfl) (by omega) h1 ha1 rfl (by decide) rfl
  obtain ⟨u, hrun2, hu, ha⟩ :=
    Sending.last hsrc (hr2.trans (hlen .read2).symm) (by rw [hr2]; rfl) (by omega) h2 ha2 rfl
  have hparsed := hu.parsed rfl
  rw [ha.cfg, show s.cfg.capMax (rowOf (.read b d)).capture = 16 from congrArg Constants.capMaxRead hsrc] at hparsed
  exact ⟨_, (runSteps_succ hstep 61).trans ((runSteps_add hrun1 35).trans hrun2), rfl, rfl, rfl, hu.op, hu.block,
    hu.wdata, hu.failStep, hparsed.marker, hparsed.capcnt, hparsed.rdata, ha.cfg, ha.script, ha.stream⟩

/-- Settles O51: neither step of a WRITE is armed, and WRITE_ID has the constants of WRITE. -/
theorem writeCompletesWithoutCapture : Obligations.WriteCompletesWithoutCapture := by
  intro s i b d r1 r2 rest plan hi hsrc hst hscript hheld hr1 hr2 hwin
  have hlen := expected_of_source hsrc
  have hwrite : rowOf i = writeRow ∧ i.opcode = 4 ∧ i.block = b ∧ i.data = d := by
    rcases hi with rfl | ⟨v, rfl, rfl⟩ <;> exact ⟨rfl, rfl, rfl, rfl⟩
  obtain ⟨hrow, hop, rfl, rfl⟩ := hwrite
  rw [show 62 = 27 + 35 from rfl, List.replicate_add, List.append_assoc] at hscript
  obtain ⟨s1, hstep, h1, ha1⟩ := step_accept hst (congrArg CommandRow.start hrow) hscript
  rw [hheld, List.append_assoc] at ha1
  obtain ⟨s2, hrun1, h2, ha2⟩ :=
    Sending.next hsrc (hr1.trans (hlen .write1).symm) (by rw [hr1]; rfl) (by omega) h1 ha1
      (congrArg CommandRow.last hrow) (by decide) rfl
  obtain ⟨u, hrun2, hu, ha⟩ :=
    Sending.last hsrc (hr2.trans (hlen .write2).symm) (by rw [hr2]; rfl) (by omega) h2 ha2
      (congrArg CommandRow.last hrow)
  obtain ⟨hrdata, hcapcnt, hmarker⟩ := hu.not_armed rfl
  exact ⟨_, (runSteps_succ hstep 62).trans ((runSteps_add hrun1 35).trans hrun2), rfl, rfl, rfl, hu.op.trans hop,
    hu.block, hu.wdata, hu.failStep, hmarker, hcapcnt, hrdata, ha.cfg, ha.script, ha.stream⟩

/-- Settles O48: the responses of auth-1 and auth-2 are counted, and that of the armed auth-3 parsed. -/
theorem authCompletesWithThePassword : Obligations.AuthCompletesWithThePassword := by
  intro s b d r1 r2 r3 rest plan hsrc hst hscript hheld hr1 hr2 hr3 hwin
  have hlen := expected_of_source hsrc
  rw [show 60 = 18 + (20 + 22) from rfl, List.replicate_add, List.replicate_add, List.append_assoc,
    List.append_assoc] at hscript
  obtain ⟨s1, hstep, h1, ha1⟩ := step_accept hst rfl hscript
  rw [hheld, List.append_assoc, List.append_assoc] at ha1
  obtain ⟨s2, hrun1, h2, ha2⟩ :=
    Sending.next hsrc (hr1.trans (hlen .auth1).symm) (by rw [hr1]; rfl) (by omega) h1 ha1 rfl (by decide) rfl
  obtain ⟨s3, hrun2, h3, ha3⟩ :=
    Sending.next hsrc (hr2.trans (hlen .auth2).symm) (by rw [hr2]; rfl) (by omega) h2 ha2 rfl (by decide) rfl
  obtain ⟨u, hrun3, hu, ha⟩ :=
    Sending.last hsrc (hr3.trans (hlen .auth3).symm) (by rw [hr3]; rfl) (by omega) h3 ha3 rfl
  have hparsed := hu.parsed rfl
  rw [ha.cfg, show s.cfg.capMax (rowOf (.auth b d)).capture = 4 from congrArg Constants.capMaxAuth hsrc] at hparsed
  refine ⟨_, (runSteps_succ hstep 60).trans ((runSteps_add hrun1 42).trans ((runSteps_add hrun2 22).trans hrun3)),
    rfl, rfl, rfl, hu.op, hu.block, hu.wdata, hu.failStep, hparsed.marker, hparsed.capcnt, hparsed.rdata, ha.cfg,
    ha.script, congrArg Stream.rxHeld ha.stream, congrArg Stream.txHeld ha.stream⟩

end Machine
end Sys2Proof

namespace Sys2Proof
namespace Machine

/-! ### No run of a reachable state stops (60_exceptions.md R204) -/

/-- In IDLE no cycle stops: a reset, no command and the accept of any command, a reserved code too, all answer. -/
theorem step_answers_of_idle {s : State} (hst : s.st = .idle) : ∃ t, step s = .next t := by
  cases hrst : s.input.rst with
  | true => exact ⟨_, step_of_reset hrst⟩
  | false =>
    cases hoffer : s.cmdOffer with
    | none => exact ⟨_, step_of_no_offer hrst hst hoffer⟩
    | some c => exact ⟨_, step_of_offer hrst hst hoffer (exec_idle_decode hst c)⟩

/-- Every cycle of a state that meets the invariant answers, with a state that meets it again. -/
theorem Inv.step_next {s : State} (h : Inv s) : ∃ t, step s = .next t ∧ Inv t := by
  obtain ⟨t, ht⟩ : ∃ t, step s = .next t := by
    by_cases hst : s.st = .idle
    · exact step_answers_of_idle hst
    · exact h.step_answers hst
  exact ⟨t, ht, everyStepKeepsTheInvariant s t h ht⟩

/-- Settles O37, by induction on the number of cycles: each cycle answers and keeps the invariant. -/
theorem noRunFromTheInvariantStops : Obligations.NoRunFromTheInvariantStops := by
  intro s n h
  induction n generalizing s with
  | zero => exact ⟨s, rfl⟩
  | succ n ih =>
    obtain ⟨t, ht, hinv⟩ := h.step_next
    obtain ⟨u, hu⟩ := ih t hinv
    exact ⟨u, (runSteps_succ ht n).trans hu⟩

end Machine
end Sys2Proof

namespace Sys2Proof
namespace Machine

/-! ### What a step does to the stream (70_reset_and_hazards.md R238; 20_memory.md R68) -/

/-- Whatever the engine does in a cycle, the stream takes its own clock edge. -/
theorem step_stream {s t : State} (h : step s = .next t) : t.stream = s.nextStream := by
  obtain ⟨u, rfl, -⟩ := step_next h
  rfl

section
variable {s : State}

/-- Outside the window of RX, and under reset (42_session_commands.md R164), no byte is taken. -/
theorem State.takesByte_eq_false (h : s.st ≠ .rx ∨ s.input.rst = true ∨ s.cfg.deadlineTicks < s.elapsed) :
    s.takesByte = false := by
  rw [← Bool.not_eq_true, byteIsAcceptedInTheWindowAlone s]
  rintro ⟨hrst, hst, hwin, -⟩
  rcases h with hother | hreset | hlate
  · exact hother hst
  · exact Bool.false_ne_true (hrst.symm.trans hreset)
  · exact absurd hlate (Nat.not_lt.mpr hwin)

/-- Without a flush the receive buffer loses the byte taken and no other. -/
theorem State.nextStream_rxHeld (hst : s.st ≠ .fl) :
    s.nextStream.rxHeld = if s.takesByte then s.rxQueue.tail else s.rxQueue := by
  have hflush : s.outputs.flush = false := decide_eq_false hst
  rw [State.nextStream, if_neg (by simp [hflush])]

theorem State.nextStream_rxHeld_kept (hst : s.st ≠ .fl)
    (h : s.st ≠ .rx ∨ s.input.rst = true ∨ s.cfg.deadlineTicks < s.elapsed) : s.nextStream.rxHeld = s.rxQueue := by
  rw [State.nextStream_rxHeld hst, State.takesByte_eq_false h, if_neg Bool.false_ne_true]

end

/-- Settles O34: the stream after a step is `nextStream`, whose two buffers are read off in each sequencer state. -/
theorem streamKeepsEveryByteNotTaken : Obligations.StreamKeepsEveryByteNotTaken := by
  intro s t hstep
  rw [step_stream hstep]
  refine ⟨State.nextStream_fl, fun hst hrst hwin => ?taken, State.nextStream_rxHeld_kept, fun hst hidx => ?sent, ?quiet⟩
  case taken => rw [State.nextStream_rx_window hrst hst hwin]
  case sent => exact ⟨_, (some_frameByte hidx).symm, by rw [State.nextStream_tx hst]⟩
  case quiet =>
    rintro (hst | hst)
    · rw [State.nextStream_idle hst]
    · rw [State.nextStream_rx hst]

/-! ### The configuration (93_implementation_defined.md I13; 70_reset_and_hazards.md R232, R233) -/

theorem accept_cfg (k : CommandRow) (b : Byte) (d : Bytes16) (s : State) : (accept k b d s).cfg = s.cfg := by
  rcases accept_cases k b d s with ⟨first, -, heq⟩ | ⟨-, heq⟩ | ⟨-, heq⟩ <;> rw [heq] <;> rfl

theorem txCycle_cfg (s : State) : (txCycle s).cfg = s.cfg := by
  rcases txCycle_cases s with ⟨-, heq⟩ | ⟨-, heq⟩ <;> rw [heq]

theorem rxCycle_cfg {k : CommandRow} {s t : State} (h : rxCycle k s = .next t) : t.cfg = s.cfg := by
  rcases rxCycle_next h with ⟨-, rfl⟩ | ⟨-, -, rfl⟩ | ⟨b, -, -, -, rfl⟩ | ⟨b, -, -, -, -, rfl⟩ |
    ⟨b, last, -, -, -, -, -, rfl⟩
  · rfl
  · rfl
  · exact counted_cfg k b s
  · exact counted_cfg k b s
  · exact counted_cfg k b s

/-- No cycle changes the configuration, a reset cycle neither. -/
theorem step_cfg {s t : State} (h : step s = .next t) : t.cfg = s.cfg := by
  obtain ⟨u, rfl, hu⟩ := step_next h
  rw [tick_cfg]
  rcases hu with ⟨-, rfl⟩ | ⟨-, -, -, rfl⟩ | ⟨c, -, -, -, rfl⟩ | ⟨-, -, rfl⟩ | ⟨-, -, hrx⟩ | ⟨-, -, rfl⟩
  · exact resetEngine_cfg s
  · exact idleCycle_cfg s
  · exact accept_cfg _ _ _ s
  · exact txCycle_cfg s
  · exact rxCycle_cfg hrx
  · exact finish_cfg .ok s

/-- A run that answers is a step that answers and the run from there. -/
theorem runSteps_succ_next {n : Nat} {s t : State} (h : runSteps (n + 1) s = .next t) :
    ∃ u, step s = .next u ∧ runSteps n u = .next t := by
  rw [runSteps] at h
  split at h
  · exact ⟨_, ‹_›, h⟩
  · cases h
  · cases h

/-- Settles O39, by induction on the number of cycles. -/
theorem configurationNeverChanges : Obligations.ConfigurationNeverChanges := by
  intro s t n hrun
  induction n generalizing s with
  | zero => cases hrun; rfl
  | succ n ih =>
    obtain ⟨u, hstep, hrest⟩ := runSteps_succ_next hrun
    exact (ih u hrest).trans (step_cfg hstep)

/-! ### A reset cycle (70_reset_and_hazards.md R230 to R232) -/

theorem eq_of_step_reset {s t : State} (hrst : s.input.rst = true) (h : step s = .next t) :
    t = tick s (resetEngine s) :=
  (Host.Outcome.next.inj ((step_of_reset hrst).symm.trans h)).symm

/-- The outputs depend on the engine's elements alone, and these are the ones of the reset state (10_state.md R41). -/
theorem outputs_tick_resetEngine (s : State) : (tick s (resetEngine s)).outputs = State.reset.outputs := rfl

/-- In IDLE all handshake outputs but `cmd_ready` are 0, and with every element 0 so is each field of STATUS. -/
theorem State.reset_outputs : State.reset.outputs =
    { cmdReady := true, txValid := false, txData := 0, rxReady := false, flush := false, done := false,
      rdata := zero16, status := 0x0000 } := rfl

/-- Settles O1: the cycle answers with `resetEngine`, whatever else comes in, and its elements are read off. -/
theorem resetCyclePutsEveryElementAtItsResetValue : Obligations.ResetCyclePutsEveryElementAtItsResetValue :=
  fun _ hrst => ⟨_, step_of_reset hrst, rfl, rfl, rfl, rfl, rfl, rfl, rfl, rfl, rfl, rfl, rfl, rfl, rfl, rfl, rfl, rfl⟩

/-- Settles O2: no step changes the configuration, and under reset the stream loses bytes to a flush alone. -/
theorem resetLeavesStreamAndConfiguration : Obligations.ResetLeavesStreamAndConfiguration := by
  intro s t hrst hstep
  refine ⟨step_cfg hstep, fun hst => ?_⟩
  rw [step_stream hstep]
  exact State.nextStream_rxHeld_kept hst (.inr (.inl hrst))

/-- Settles O3: the outputs after a reset cycle are those of the reset state. -/
theorem outputsAfterReset : Obligations.OutputsAfterReset := by
  refine ⟨fun s t hrst hstep => ?_, State.reset_outputs⟩
  rw [eq_of_step_reset hrst hstep, outputs_tick_resetEngine, State.reset_outputs]

end Machine
end Sys2Proof
